-- ==== Sys2Proof/Word.lean ====
section
/-! DEFINITION. Characters, texts and the names of the part's lines, Ports and classes of surcharge.
A character of a line is its eight data bits (R125), so it is a bit vector; a field, a verb or a frame
body is a list of characters. Money, counts and positions are plain natural numbers. -/

namespace Sys2Proof

/-- The eight data bits of one character of a line (R125). -/
abbrev Chr := BitVec 8

/-- A run of characters: a verb, a field, the body of a frame. -/
abbrev Text := List Chr

/-- The characters of a word that the manual writes in capitals, such as a verb. -/
def word (s : String) : Text := s.toList.map fun c => BitVec.ofNat 8 c.toNat

/-- A Port of the part: index 0 stands for Port 1 and index 5 for Port 6 (R103). -/
abbrev Port := Fin 6

/-- The six surcharge letters (R33). -/
inductive Letter where
  | A | B | C | D | E | F
  deriving DecidableEq, Repr

/-- The seven lines of the part (section 1.3 of the scope file). -/
inductive Line where
  | host
  | meter (p : Port)
  deriving DecidableEq, Repr

/-- The two flow characters (R175). -/
inductive Flow where
  | hold
  | go
  deriving DecidableEq, Repr

/-- The termination reasons other than COMPLETE (R127 to R130). -/
inductive FaultReason where
  | check | badchar | overlength | gap | tooslow | framing | parity | lineBreak
  deriving DecidableEq, Repr

/-- How a character was received: cleanly, with a parity error, or with a stop-bit error (R129). The manual
does not say whether a meter character with both errors ends its frame PARITY or FRAMING: an event carries
one of the two, and which one it is for such a character is the sender's (DESIGN CHOICE, log entry 35). -/
inductive CharError where
  | clean | parity | stopBit
  deriving DecidableEq, Repr

/-- The input levels a start-up samples: the two speed straps (R176) and the six meter receive
lines, `true` for marking (R136). -/
structure Pins where
  hspd1 : Bool
  hspd0 : Bool
  marking : Vector Bool 6
  deriving DecidableEq, Repr, Inhabited

end Sys2Proof
end

