-- ==== Sys2Proof/Syntax.lean ====
section
/-! DEFINITION. The commands of the part: one constructor for each row of spec/opcode_table.json.
A host request and a meter record carry their fields as the characters received, because the rules
judge a field character by character (R153, R60, R108); an event at a line carries its line or Port
and what the part observes there. -/

namespace Sys2Proof

/-- One command. The rows named after a request or a record stand for that request or record
reaching its line unit complete; the others are the events of the lines, the timers and the pins. -/
inductive Instr where
  -- requests of the host (R152): the fields after the verb
  | refill (fields : List Text)
  | withdraw (fields : List Text)
  | spoilref (fields : List Text)
  | recall (fields : List Text)
  | levels (fields : List Text)
  | limits (fields : List Text)
  | funds (fields : List Text)
  | portfunds (fields : List Text)
  | band (fields : List Text)
  | bandRemove (fields : List Text)
  | surch (fields : List Text)
  | tier (fields : List Text)
  | edition (fields : List Text)
  | clearnext (fields : List Text)
  | activate (fields : List Text)
  | quote (fields : List Text)
  | raterep (fields : List Text)
  | cancel (fields : List Text)
  | line (fields : List Text)
  | receive (fields : List Text)
  | sell (fields : List Text)
  | returnStock (fields : List Text)
  | count (fields : List Text)
  | stockrep (fields : List Text)
  | discrep (fields : List Text)
  | offer (fields : List Text)
  | suspend (fields : List Text)
  | resume (fields : List Text)
  | portrep (fields : List Text)
  | meterreset (fields : List Text)
  | loopOn (fields : List Text)
  | loopOff (fields : List Text)
  | linetest (fields : List Text)
  | notices (fields : List Text)
  | status (fields : List Text)
  | restart (fields : List Text)
  | reinit (fields : List Text)
  | hostUnknownVerb (verb : Text) (fields : List Text)
  -- events of the host line
  | hostFrameComplete
  | hostFrameError (reason : FaultReason)
  -- (the pins are the input levels found, read where the event ends in a pending restart: R158, R159)
  | hostBreak (begun : Bool)
  | hostSlotFree
  | hostFlowCharacter (flow : Flow)
  -- events of a receiver's timers, on any line
  | idleGapElapsed (line : Line)
  | intercharacterLimitExpiry (line : Line)
  | messageLimitExpiry (line : Line)
  -- events of a meter line
  | meterFrameComplete (port : Port)
  | meterFrameError (port : Port) (reason : FaultReason)
  | meterSlotFree (port : Port)
  | hold (port : Port)
  | go (port : Port)
  -- records of a meter (R105): the fields after the verb
  | announce (port : Port) (fields : List Text)
  | run (port : Port) (fields : List Text)
  | done (port : Port) (fields : List Text)
  | stop (port : Port) (fields : List Text)
  | meterUnknownVerb (port : Port) (verb : Text) (fields : List Text)
  -- the line monitor, the line test and the Run timers
  | breakDetected (port : Port)
  | meterReset (port : Port)
  | lineDown (port : Port)
  | lineUp (port : Port)
  | loopbackTestEnd (port : Port) (fault : Option FaultReason)
  | loopbackTestTimeout (port : Port)
  | silenceTimerExpiry (port : Port)
  | waitTimerExpiry (port : Port)
  -- power, reset and start-up
  | supplyFailing (heldUp : Bool)
  | resetAsserted
  | startUp (pins : Pins) (cellFailed : Bool)
  | restartStartUp (pins : Pins)
  | reinitStartUp (pins : Pins)
  -- characters, and the end of a break sent by METERRESET
  | characterReceived (line : Line) (char : Chr) (error : CharError)
  | meterresetBreakEnd (port : Port)
  deriving DecidableEq, Repr

end Sys2Proof
end

