-- ==== Sys2Proof/Decode.lean ====
section
/-! DEFINITION. The command that a word of the table's bits spells. No row of spec/opcode_table.json
gives bits: the commands of this part are records of characters and events of lines, pins and
timers, and the records are read by the receivers (Machine/Receiver.lean, Machine/Text.lean). -/

namespace Sys2Proof

/-- The command a word spells by the table's bits: none, since no row gives bits (log entry 24). -/
def decodeTableWord (_nbits _w : Nat) : Option Instr := none

end Sys2Proof
end

