-- ==== Sys2Proof/Machine/Retained.lean ====
section
/-! DEFINITION. The retained contents of the part: the balances, totals, tables, records and queues
that Retained Memory keeps through power failure, start-up and RESTART (R167). Every figure is a
whole number of minor units, pieces, grams or seconds (section 4 of the scope file). -/

namespace Sys2Proof.Machine

/-- One weight band of a class in a Rate Table (R33). -/
structure Band where
  lower : Nat
  upper : Nat
  rate : Nat
  deriving DecidableEq, Repr

/-- One discount tier of a Rate Table (R33): the least count of pieces and the discount per mille. -/
structure Tier where
  minimum : Nat
  perMille : Nat
  deriving DecidableEq, Repr

/-- A Rate Table (R33): eight classes of ten band slots, six surcharges, four tier slots. -/
structure RateTable where
  edition : Nat
  bands : Vector (Vector (Option Band) 10) 8
  surcharges : Vector (Option Nat) 6
  tiers : Vector (Option Tier) 4
  deriving DecidableEq, Repr

/-- The table with Edition 0 and nothing in any slot (R33). -/
def RateTable.empty : RateTable where
  edition := 0
  bands := Vector.replicate 8 (Vector.replicate 10 none)
  surcharges := Vector.replicate 6 none
  tiers := Vector.replicate 4 none

/-- A Port Funds Record (R17). -/
structure PortFunds where
  available : Nat
  reserved : Nat
  usedValue : Nat
  usedPieces : Nat
  spoilPieces : Nat
  spoilValue : Nat
  lowMark : Nat
  target : Nat
  short : Bool
  runLimit : Nat
  silenceLimit : Nat
  waitLimit : Nat
  deriving DecidableEq, Repr

/-- The record after REINIT (R17, last column). -/
def PortFunds.initial : PortFunds where
  available := 0
  reserved := 0
  usedValue := 0
  usedPieces := 0
  spoilPieces := 0
  spoilValue := 0
  lowMark := 20000
  target := 100000
  short := false
  runLimit := 5000000
  silenceLimit := 60
  waitLimit := 120

/-- The record as it is taken in LOCKED: every field 0 and the Short flag clear (R18). -/
def PortFunds.zero : PortFunds where
  available := 0
  reserved := 0
  usedValue := 0
  usedPieces := 0
  spoilPieces := 0
  spoilValue := 0
  lowMark := 0
  target := 0
  short := false
  runLimit := 0
  silenceLimit := 0
  waitLimit := 0

/-- The states of a Run (R55). -/
inductive RunState where
  | waiting | active | cancelling
  deriving DecidableEq, Repr

/-- A Run Record (R55). Outstanding is computed and not stored. A deadline is held as the whole
seconds its timer was last started with: the part's clock is not modelled (log entry 5). -/
structure Run where
  id : Nat
  state : RunState
  pieces : Nat
  level : Nat
  block : Nat
  edition : Nat
  charge : Nat
  total : Nat
  granted : Nat
  printed : Nat
  spoiled : Nat
  waitDeadline : Option Nat
  silenceDeadline : Option Nat
  cancelRequested : Bool
  deriving DecidableEq, Repr

/-- Outstanding: Granted minus Printed (R55). -/
def Run.outstanding (r : Run) : Nat := r.granted - r.printed

/-- The states of a Stock Line (R85). -/
inductive StockState where
  | undefinedLine | onSale | retired
  deriving DecidableEq, Repr

/-- The forms of a Stock Line (R85). -/
inductive StockForm where
  | sheet | booklet | coil | single
  deriving DecidableEq, Repr

/-- A Stock Line (R85). Denomination and form are absent while the line is UNDEFINED. -/
structure StockLine where
  state : StockState
  denomination : Option Nat
  form : Option StockForm
  onHand : Nat
  soldPieces : Nat
  soldValue : Nat
  deriving DecidableEq, Repr

/-- A Stock Line after REINIT (R85, last column). -/
def StockLine.initial : StockLine where
  state := .undefinedLine
  denomination := none
  form := none
  onHand := 0
  soldPieces := 0
  soldValue := 0

/-- The value of one piece of a line, 0 for a line with no denomination (R15, R85). -/
def StockLine.unit (l : StockLine) : Nat := l.denomination.getD 0

/-- The value of a line: its On-hand times its denomination (R85). -/
def StockLine.value (l : StockLine) : Nat := l.onHand * l.unit

/-- An entry of the Discrepancy Log (R97). -/
structure Discrepancy where
  line : Nat
  denomination : Nat
  book : Nat
  counted : Nat
  difference : Int
  value : Int
  deriving DecidableEq, Repr

/-- The branch Offer (R106). The classes are in ascending and the letters in alphabetical order,
each once: the one form of a set that the part writes. -/
structure Offer where
  classes : List Nat
  surcharges : List Letter
  maxRun : Nat
  block : Nat
  deriving DecidableEq, Repr

/-- The classes 1 to 8 in ascending order (R33). -/
def allClasses : List Nat := [1, 2, 3, 4, 5, 6, 7, 8]

/-- The surcharge letters A to F in alphabetical order (R33). -/
def allLetters : List Letter := [.A, .B, .C, .D, .E, .F]

/-- The default Offer, which REINIT sets (R106). -/
def Offer.initial : Offer where
  classes := allClasses
  surcharges := allLetters
  maxRun := 9999
  block := 25

/-- The Offer as it is taken in LOCKED, where it is not read (R106, R167). -/
def Offer.zero : Offer where
  classes := []
  surcharges := []
  maxRun := 0
  block := 0

/-- The retained contents of all blocks (R167, the table). -/
structure Retained where
  pool : Nat
  credited : Nat
  withdrawn : Nat
  surplus : Nat
  shortage : Nat
  lastOrder : Nat
  funds : Vector PortFunds 6
  current : RateTable
  next : RateTable
  runs : Vector (Option Run) 6
  queue : List Port
  runIds : Vector Nat 6
  stock : Vector StockLine 24
  log : List Discrepancy
  logCount : Nat
  offer : Offer
  serials : Vector (Option Text) 6
  suspended : Vector Bool 6
  deriving DecidableEq, Repr

/-- The contents after REINIT (R172, step 1). -/
def Retained.initial : Retained where
  pool := 0
  credited := 0
  withdrawn := 0
  surplus := 0
  shortage := 0
  lastOrder := 0
  funds := Vector.replicate 6 PortFunds.initial
  current := RateTable.empty
  next := RateTable.empty
  runs := Vector.replicate 6 none
  queue := []
  runIds := Vector.replicate 6 0
  stock := Vector.replicate 24 StockLine.initial
  log := []
  logCount := 0
  offer := Offer.initial
  serials := Vector.replicate 6 none
  suspended := Vector.replicate 6 false

/-- The contents as every block takes them in LOCKED: zero, empty, UNDEFINED, absent or clear
(R167). -/
def Retained.locked : Retained :=
  { Retained.initial with
    funds := Vector.replicate 6 PortFunds.zero
    offer := Offer.zero }

end Sys2Proof.Machine
end

