-- ==== Sys2Proof/Config.lean ====
section
/-! DEFINITION. What is fixed for the part: the ranges of the manual, the line parameters of R125, and
the two things that are left open as values, the cyclic check of R167 and the levels a restart finds. -/

namespace Sys2Proof.Config

/-- The upper end of a balance (section 4.2 of the scope file; R1, R17). -/
def balanceMax : Nat := 99999999

/-- The upper end of a lifetime total (section 4.2 of the scope file; R2, R17). -/
def lifetimeMax : Nat := 999999999999

/-- The largest amount of one Order (R5 to R7). -/
def orderAmountMax : Nat := 9999999

/-- The largest Order number (R3). -/
def orderNumberMax : Nat := 999999

/-- The largest count of pieces of a Run, and the last Run Id (R55, R56). -/
def piecesMax : Nat := 9999

/-- The most pieces one Grant Block may carry (R55, R106). -/
def blockMax : Nat := 25

/-- The most Notices the Notice Queue holds (R160). -/
def noticeMax : Nat := 32

/-- The most entries the Discrepancy Log holds (R97). -/
def logMax : Nat := 16

/-- The limit at which the Discrepancy Count stays (R97). -/
def logCountMax : Nat := 999999

/-- The most frames an Input Queue holds (R137). -/
def inputMax : Nat := 4

/-- The most requests the Host Input Hold keeps (R147). -/
def holdMax : Nat := 2

/-- The most characters of a LINETEST text (R146). -/
def testTextMax : Nat := 60

/-- The characters of an unknown verb that a reply echoes (R105, R152). -/
def echoMax : Nat := 12

/-- The parameters of one kind of line, in character times but for the frame limit (R125). -/
structure LineParams where
  bitTimesPerCharacter : Nat
  idleGap : Nat
  intercharacterLimit : Nat
  messageLimit : Nat
  maxFrame : Nat
  breakLength : Nat
  deriving DecidableEq, Repr

/-- The meter lines (R125). -/
def meterLine : LineParams := ⟨11, 3, 20, 250, 80, 2⟩

/-- The host line (R125). -/
def hostLine : LineParams := ⟨10, 3, 20, 400, 240, 2⟩

/-- The parameters of a line. -/
def lineParams : Line → LineParams
  | .host => hostLine
  | .meter _ => meterLine

/-- The 16-bit cyclic check over the retained contents (R167). The manual gives neither its
polynomial nor the order of the contents, so it is a free function (log entry 3). -/
opaque checkWord : Machine.Retained → BitVec 16

/-- The levels that the restart of a number finds on the straps and on the meter lines, where the row that
ends in it carries none (R171, R176). They come from outside the part, so they are a free value (log entry
10). -/
opaque pinsFound : Nat → Pins

end Sys2Proof.Config
end

