-- ==== Sys2Proof/Machine/Records.lean ====
section
/-! DEFINITION. The records the part receives and composes, the Notices, and the working records of
the line units and of the Port Manager: what State is made of beside the retained contents. -/

namespace Sys2Proof.Machine

/-- A frame as a receiver hands it on: its verb and its fields (R173). -/
structure Frame where
  verb : Text
  fields : List Text
  deriving DecidableEq, Repr

/-- The verbs of the host requests (R152, the table). -/
inductive HostVerb where
  | refill | withdraw | spoilref | recall | levels | limits | funds | portfunds
  | band | quote | surch | raterep | tier | edition | activate | clearnext
  | cancel | line | receive | sell | returnStock | count | stockrep | discrep
  | offer | suspend | resume | portrep | meterreset | loop | linetest
  | notices | status | restart | reinit
  deriving DecidableEq, Repr

/-- The refusal words of host replies (section 8.2.1) and of BADREQ records (R61, R62, R105, R108). -/
inductive RefusalWord where
  | unknown | locked | fields | format | range | state | busy | norun
  | exhausted | duplicate | gap | queued | short | poolfull | full | excess
  | same | noedition | mismatch | empty | noclass | noband | nosurch | zero
  | overflow | notempty | suspended | size | overlimit | notready
  deriving DecidableEq, Repr

/-- The reasons for which a Run is closed (R84). -/
inductive RunReason where
  | complete | stopped | cancelled | silent | nofunds | suspended | linedown | meterreset | restart
  deriving DecidableEq, Repr

/-- One figure of a reply or of a Notice group: a number, a signed figure, or a text, an empty text
being an empty field (R174). -/
inductive Figure where
  | num (n : Nat)
  | int (z : Int)
  | text (t : Text)
  deriving DecidableEq, Repr

/-- The replies to the host (R154, R150, R152). -/
inductive HostReply where
  | ok (verb : HostVerb) (figures : List Figure)
  | adj (verb : HostVerb) (pos : Nat) (figures : List Figure)
  | no (verb : HostVerb) (word : RefusalWord) (pos : Nat) (extra : Option Nat)
  | unknown (verb : Text)
  | frame (reason : FaultReason)
  deriving DecidableEq, Repr

/-- The terms agreed between the part and one meter (R111, R113). -/
structure Profile where
  level : Nat
  classes : List Nat
  surcharges : List Letter
  maxRun : Nat
  block : Nat
  basic : Bool
  deriving DecidableEq, Repr

/-- The records the part sends to a meter (section 11.4). -/
inductive MeterFrame where
  | accept (profile : Profile)
  | refuse
  | badreq (verb : Text) (word : RefusalWord) (pos : Nat)
  | wait (id : Nat)
  | runok (id edition charge block : Nat)
  | grant (id block : Nat)
  | ack (id outstanding : Nat)
  | norun (id : Nat)
  | runend (id : Nat) (reason : RunReason) (printed spoiled : Nat)
  | halt (id : Nat)
  | echo (text : Text)
  deriving DecidableEq, Repr

/-- The names of the two transmit slots of a line (R140, R147). -/
inductive SlotName where
  | A | B
  deriving DecidableEq, Repr

/-- Two transmit slots, by how many hold a composed frame: none, with the slot the next goes into;
one, with its slot; or two, the one composed earlier first (R140, R147). -/
inductive Slots (φ : Type) where
  | empty (next : SlotName)
  | one (at_ : SlotName) (frame : φ)
  | two (firstAt : SlotName) (first second : φ)
  deriving DecidableEq, Repr

/-- The receiver of a line (R126). `collect` holds the characters after the open marker, and whether
the line has stayed at space since an all-space character with a stop-bit error (R129). -/
inductive Receiver where
  | idleWait
  | ready
  | collect (body : Text) (atSpace : Bool)
  deriving DecidableEq, Repr

/-- The host line speeds (R125, R176). -/
inductive HostSpeed where
  | baud9600 | baud19200 | baud38400 | baud115200
  deriving DecidableEq, Repr

/-- The causes of a start-up (R165). -/
inductive Cause where
  | start | restart | reinit
  deriving DecidableEq, Repr

/-- The state the Host Line Unit owns (R147). `begun` says that the first character of the reply
composed earliest is known to have gone (R151; log entry 9); `restartPending` carries the cause of the
start-up to come. -/
structure HostUnit where
  rx : Receiver
  speed : HostSpeed
  hold : List Frame
  slots : Slots HostReply
  begun : Bool
  overrun : Bool
  frameError : Bool
  restartPending : Option Cause
  deriving DecidableEq, Repr

/-- The state a Meter Line Unit owns (section 7.1). `sending` says that the transmitter has begun the
frame composed earliest (R139); `flowOut` is the flow character last due and `flowWaiting` that it
still waits for the character on the line (R138); `drivingBreak` that the transmitter drives the
break of a METERRESET (R143); `sentEcho` is the frame whose slot freed last in LOOPBACK, whose characters
may still come round (R142, R144; log entry 39). The loop mode is the Port state LOOPBACK. -/
structure Mlu where
  rx : Receiver
  lineUp : Bool
  inputs : List Frame
  slots : Slots MeterFrame
  sending : Bool
  owed : Option MeterFrame
  heldByUs : Bool
  heldByMeter : Bool
  flowOut : Option Flow
  flowWaiting : Bool
  drivingBreak : Bool
  testInFlight : Bool
  sentEcho : Option MeterFrame
  deriving DecidableEq, Repr

/-- The states of a Port (R103). -/
inductive PortState where
  | absent | unannounced | ready | refused | loopback
  deriving DecidableEq, Repr

/-- The eight conditions a Port latches (R121). -/
inductive Condition where
  | lineError | overrun | unannouncedUse | countMismatch | silentClose | shortDraw | meterReset
  | meterChanged
  deriving DecidableEq, Repr

/-- The set of a Port's latched conditions (R121). -/
structure Latches where
  lineError : Bool
  overrun : Bool
  unannouncedUse : Bool
  countMismatch : Bool
  silentClose : Bool
  shortDraw : Bool
  meterReset : Bool
  meterChanged : Bool
  deriving DecidableEq, Repr

/-- The empty set of conditions. -/
def Latches.none : Latches := ⟨false, false, false, false, false, false, false, false⟩

/-- A Last Loop Result other than NONE (R146): COMPLETE (`none`) or a fault, and the text received. -/
structure LoopResult where
  fault : Option FaultReason
  text : Text
  deriving DecidableEq, Repr

/-- The fields of a Port Record that are not retained (R103). -/
structure PortRecord where
  state : PortState
  profile : Option Profile
  latched : Latches
  lineGood : Bool
  lastError : Option FaultReason
  loopResult : Option LoopResult
  deriving DecidableEq, Repr

/-- The kinds of Order (R8). -/
inductive OrderKind where
  | refill | withdraw | spoilref
  deriving DecidableEq, Repr

/-- The causes of a POOLSHORT Notice (R25). -/
inductive ShortCause where
  | queued | pool
  deriving DecidableEq, Repr

/-- The causes of a METERRESET Notice (R118). -/
inductive ResetCause where
  | lineBreak | command
  deriving DecidableEq, Repr

/-- The outcomes of a count (R95). -/
inductive CountOutcome where
  | equal | short | over
  deriving DecidableEq, Repr

/-- A Notice (section 9.3, the table): its kind, its Port if it names one, and its figures in order.
The Profile of an ATTACH is absent for the outcome REFUSE. -/
inductive Notice where
  | order (kind : OrderKind) (port : Option Port) (order amount : Nat) (pieces : Option Nat) (pool : Nat)
  | runwait (port : Port) (id total needed pool position : Nat)
  | runend (port : Port) (id : Nat) (reason : RunReason) (pieces printed spoiled charge used : Nat)
  | nofunds (port : Port) (id total needed pool : Nat)
  | poolshort (port : Port) (cause : ShortCause) (drawn available target pool : Nat)
  | attach (port : Port) (former : PortState) (serial : Text) (profile : Option Profile)
  | detach (port : Port) (left : PortState) (serial : Option Text) (runId available reserved : Nat)
  | meterreset (port : Port) (cause : ResetCause) (left : PortState) (runId available : Nat)
  | meterchanged (port : Port) (former : Option Text) (serial : Text) (available reserved : Nat)
  | stockdiff (outcome : CountOutcome) (entry : Discrepancy) (count : Nat)
  | rateswitch (edition former runs : Nat)
  | startup (cause : Cause) (locked : Bool) (closed : Nat)
  | locked
  deriving DecidableEq, Repr

/-- Whether the part takes events (R168). -/
inductive Power where
  | running | stopped
  deriving DecidableEq, Repr

end Sys2Proof.Machine
end

