-- ==== Sys2Proof/Machine/State.lean ====
section
/-! DEFINITION. The state of the part, the reasons a command can stop for, and the state after
reset. -/

namespace Sys2Proof.Machine

/-- The state of the part: what each block owns (section 2.1 of the scope file), the sampled pins, and
the queue of commands that wait.

`ret` is the retained contents as the blocks take them. In LOCKED that is `Retained.locked`, and
`shelved` holds the stored contents, which are left as they are and not used (R167). The check word is
absent where it was not wholly written (R168). `lockMark` is the lock mark, and the device state is
LOCKED exactly while it is set. `sampled` is the model's own: it counts the restarts whose levels are free
values (log entry 10). -/
structure State where
  power : Power
  pfail : Bool
  resetIn : Bool
  pins : Pins
  ret : Retained
  shelved : Option Retained
  checkWord : Option (BitVec 16)
  lockMark : Bool
  host : HostUnit
  records : Vector PortRecord 6
  mlus : Vector Mlu 6
  notices : List Notice
  lost : Bool
  sampled : Nat
  pending : List Instr
  deriving DecidableEq, Repr

/-- The reasons a command stops the part with a fault. There is none: the manual names no event that
stops the part with an error, and every command of the table has its effect (section '## Stops' of
NOTES.md). -/
inductive Fault where
  deriving DecidableEq, Repr

/-- The reasons a command is refused by the model. -/
inductive Refusal where
  /-- Raised by exec's arm of a command that has no meaning yet, with the command's name; safe. No arm
  raises it: every command of the table has its meaning. -/
  | notModelled (mnemonic : String)
  deriving DecidableEq, Repr

/-- A Meter Line Unit at start-up, with the line level it samples (R136). -/
def Mlu.atStart (marking : Bool) : Mlu where
  rx := .idleWait
  lineUp := marking
  inputs := []
  slots := .empty .A
  sending := false
  owed := none
  heldByUs := false
  heldByMeter := false
  flowOut := none
  flowWaiting := false
  drivingBreak := false
  testInFlight := false
  sentEcho := none

/-- The working fields of a Port Record at start-up, with the line-up flag as found (R103, R122). -/
def PortRecord.atStart (lineUp : Bool) : PortRecord where
  state := if lineUp then .unannounced else .absent
  profile := none
  latched := Latches.none
  lineGood := lineUp
  lastError := none
  loopResult := none

/-- The Host Line Unit at start-up (R147). -/
def HostUnit.atStart (speed : HostSpeed) : HostUnit where
  rx := .idleWait
  speed := speed
  hold := []
  slots := .empty .A
  begun := false
  overrun := false
  frameError := false
  restartPending := none

/-- The part right after the release of the reset input: an initialised Retained Memory whose check
word matches, every meter line unconnected, both straps low, and the start-up of R169 and R170 done
with cause START (DESIGN CHOICE, log entry 1). -/
def State.reset : State where
  power := .running
  pfail := false
  resetIn := false
  pins := ⟨false, false, Vector.replicate 6 false⟩
  ret := Retained.initial
  shelved := none
  checkWord := some (Config.checkWord Retained.initial)
  lockMark := false
  host := HostUnit.atStart .baud9600
  records := Vector.replicate 6 (PortRecord.atStart false)
  mlus := Vector.replicate 6 (Mlu.atStart false)
  notices := [.startup .start false 0]
  lost := false
  sampled := 0
  pending := []

end Sys2Proof.Machine
end

