-- ==== Sys2Proof/Machine/Text.lean ====
section
/-! DEFINITION. The record formats of chapter 11: how a field is read, how a figure and a word are
written, and how a frame is laid out with its check value. -/

namespace Sys2Proof.Machine

/-- The separator `;` (R173). -/
def separator : Chr := 0x3B

/-- The open marker of a frame (R173). -/
def openMarker : Chr := 0x7B

/-- The close marker of a frame (R173). -/
def closeMarker : Chr := 0x7D

/-- The check marker of a frame (R173). -/
def checkMarker : Chr := 0x7E

/-- The character of a flow character (R175). -/
def Flow.char : Flow → Chr
  | .hold => 0x0E
  | .go => 0x0F

/-- The flow character a character is, if it is one (R175). -/
def flowOf (c : Chr) : Option Flow :=
  if c = 0x0E then some .hold else if c = 0x0F then some .go else none

/-- The parity bit that a meter line carries with a character: even parity makes the number of ones among
the eight data bits and the parity bit even (R125, R175). -/
def parityBit (c : Chr) : Bool := (List.range 8).foldl (fun odd i => odd ^^ c.getLsbD i) false

/-! ### Numbers -/

/-- The value of a decimal digit (R174). -/
def digitValue (c : Chr) : Option Nat :=
  if 48 ≤ c.toNat ∧ c.toNat ≤ 57 then some (c.toNat - 48) else none

/-- The value of a text of decimal digits, read after `acc` (R174). -/
def digitsValue : Nat → Text → Option Nat
  | acc, [] => some acc
  | acc, c :: cs =>
    match digitValue c with
    | some d => digitsValue (10 * acc + d) cs
    | none => none

/-- A number field: one or more decimal digits, at most `most` of them (R153, R174). -/
def readNumber (most : Nat) (t : Text) : Option Nat :=
  if t = [] ∨ most < t.length then none else digitsValue 0 t

/-- The character of a decimal digit. -/
def digitChar (d : Nat) : Chr := BitVec.ofNat 8 (48 + d)

/-- Writes `n` in decimal before `acc`; `fuel` bounds the digits. -/
def writeDigits : Nat → Nat → Text → Text
  | 0, _, acc => acc
  | fuel + 1, n, acc =>
    if n < 10 then digitChar n :: acc else writeDigits fuel (n / 10) (digitChar (n % 10) :: acc)

/-- A number as the part writes it: decimal, no leading zero, 0 as one digit (R174). No figure of the
part has more than 20 digits. -/
def decimal (n : Nat) : Text := writeDigits 20 n []

/-- A signed figure: a leading minus sign for a negative value (R174). -/
def signedDecimal : Int → Text
  | .ofNat n => decimal n
  | .negSucc n => word "-" ++ decimal (n + 1)

/-! ### Sets -/

/-- The character of a surcharge letter. -/
def Letter.char : Letter → Chr
  | .A => 65
  | .B => 66
  | .C => 67
  | .D => 68
  | .E => 69
  | .F => 70

/-- The surcharge letter a character is, in capitals only (R174). -/
def letterOf (c : Chr) : Option Letter := allLetters.find? fun l => Letter.char l = c

/-- The class a character is, 1 to 8 (R174). -/
def classOf (c : Chr) : Option Nat := allClasses.find? fun k => digitChar k = c

/-- A set of classes: digits 1 to 8 in any order, repeats counting once (R174); none for any other
character. The set is in ascending order. -/
def readClasses (t : Text) : Option (List Nat) :=
  if t.all fun c => (classOf c).isSome then some (allClasses.filter fun k => t.contains (digitChar k))
  else none

/-- A set of surcharges: letters A to F in any order, repeats counting once (R174); none for any other
character. The set is in alphabetical order. -/
def readLetters (t : Text) : Option (List Letter) :=
  if t.all fun c => (letterOf c).isSome then some (allLetters.filter fun l => t.contains (Letter.char l))
  else none

/-- A set of classes as the part writes it (R174). -/
def writeClasses (s : List Nat) : Text := s.map digitChar

/-- A set of surcharges as the part writes it (R174). -/
def writeLetters (s : List Letter) : Text := s.map Letter.char

/-! ### Words -/

/-- The spelling of a host verb (R152). -/
def HostVerb.text : HostVerb → Text
  | .refill => word "REFILL"
  | .withdraw => word "WITHDRAW"
  | .spoilref => word "SPOILREF"
  | .recall => word "RECALL"
  | .levels => word "LEVELS"
  | .limits => word "LIMITS"
  | .funds => word "FUNDS"
  | .portfunds => word "PORTFUNDS"
  | .band => word "BAND"
  | .quote => word "QUOTE"
  | .surch => word "SURCH"
  | .raterep => word "RATEREP"
  | .tier => word "TIER"
  | .edition => word "EDITION"
  | .activate => word "ACTIVATE"
  | .clearnext => word "CLEARNEXT"
  | .cancel => word "CANCEL"
  | .line => word "LINE"
  | .receive => word "RECEIVE"
  | .sell => word "SELL"
  | .returnStock => word "RETURN"
  | .count => word "COUNT"
  | .stockrep => word "STOCKREP"
  | .discrep => word "DISCREP"
  | .offer => word "OFFER"
  | .suspend => word "SUSPEND"
  | .resume => word "RESUME"
  | .portrep => word "PORTREP"
  | .meterreset => word "METERRESET"
  | .loop => word "LOOP"
  | .linetest => word "LINETEST"
  | .notices => word "NOTICES"
  | .status => word "STATUS"
  | .restart => word "RESTART"
  | .reinit => word "REINIT"

/-- Every host verb, in the order of the table of R152. -/
def allVerbs : List HostVerb :=
  [.refill, .withdraw, .spoilref, .recall, .levels, .limits, .funds, .portfunds, .band, .quote,
    .surch, .raterep, .tier, .edition, .activate, .clearnext, .cancel, .line, .receive, .sell,
    .returnStock, .count, .stockrep, .discrep, .offer, .suspend, .resume, .portrep, .meterreset,
    .loop, .linetest, .notices, .status, .restart, .reinit]

/-- The host verb a text spells (R152, check 1). -/
def verbOf (t : Text) : Option HostVerb := allVerbs.find? fun v => v.text = t

/-- The number of fields of a request (R152, the table). -/
def HostVerb.fieldCount : HostVerb → Nat
  | .funds | .clearnext | .notices | .status | .restart | .reinit => 0
  | .portfunds | .edition | .activate | .cancel | .stockrep | .discrep => 1
  | .suspend | .resume | .portrep | .meterreset => 1
  | .refill | .withdraw | .recall | .surch | .raterep | .receive | .sell | .returnStock => 2
  | .count | .loop | .linetest => 2
  | .levels | .tier => 3
  | .spoilref | .limits | .line | .offer => 4
  | .band | .quote => 5

/-- The spelling of a refusal word. -/
def RefusalWord.text : RefusalWord → Text
  | .unknown => word "UNKNOWN"
  | .locked => word "LOCKED"
  | .fields => word "FIELDS"
  | .format => word "FORMAT"
  | .range => word "RANGE"
  | .state => word "STATE"
  | .busy => word "BUSY"
  | .norun => word "NORUN"
  | .exhausted => word "EXHAUSTED"
  | .duplicate => word "DUPLICATE"
  | .gap => word "GAP"
  | .queued => word "QUEUED"
  | .short => word "SHORT"
  | .poolfull => word "POOLFULL"
  | .full => word "FULL"
  | .excess => word "EXCESS"
  | .same => word "SAME"
  | .noedition => word "NOEDITION"
  | .mismatch => word "MISMATCH"
  | .empty => word "EMPTY"
  | .noclass => word "NOCLASS"
  | .noband => word "NOBAND"
  | .nosurch => word "NOSURCH"
  | .zero => word "ZERO"
  | .overflow => word "OVERFLOW"
  | .notempty => word "NOTEMPTY"
  | .suspended => word "SUSPENDED"
  | .size => word "SIZE"
  | .overlimit => word "OVERLIMIT"
  | .notready => word "NOTREADY"

/-- The spelling of a termination reason (R127 to R130). -/
def faultText : FaultReason → Text
  | .check => word "CHECK"
  | .badchar => word "BADCHAR"
  | .overlength => word "OVERLENGTH"
  | .gap => word "GAP"
  | .tooslow => word "TOOSLOW"
  | .framing => word "FRAMING"
  | .parity => word "PARITY"
  | .lineBreak => word "BREAK"

/-- The spelling of the reason of a Run's closure (R84). -/
def RunReason.text : RunReason → Text
  | .complete => word "COMPLETE"
  | .stopped => word "STOPPED"
  | .cancelled => word "CANCELLED"
  | .silent => word "SILENT"
  | .nofunds => word "NOFUNDS"
  | .suspended => word "SUSPENDED"
  | .linedown => word "LINEDOWN"
  | .meterreset => word "METERRESET"
  | .restart => word "RESTART"

/-- The spelling of a Run's state (R55). -/
def RunState.text : RunState → Text
  | .waiting => word "WAITING"
  | .active => word "ACTIVE"
  | .cancelling => word "CANCELLING"

/-- The spelling of a Port's state (R103). -/
def PortState.text : PortState → Text
  | .absent => word "ABSENT"
  | .unannounced => word "UNANNOUNCED"
  | .ready => word "READY"
  | .refused => word "REFUSED"
  | .loopback => word "LOOPBACK"

/-- The spelling of a Stock Line's state (R85). -/
def StockState.text : StockState → Text
  | .undefinedLine => word "UNDEFINED"
  | .onSale => word "OPEN"
  | .retired => word "RETIRED"

/-- The spelling of a Stock Line's form (R85). -/
def StockForm.text : StockForm → Text
  | .sheet => word "SHEET"
  | .booklet => word "BOOKLET"
  | .coil => word "COIL"
  | .single => word "SINGLE"

/-- The spelling of a kind of Order (R8). -/
def OrderKind.text : OrderKind → Text
  | .refill => word "REFILL"
  | .withdraw => word "WITHDRAW"
  | .spoilref => word "SPOILREF"

/-- The spelling of the outcome of a count (R95). -/
def CountOutcome.text : CountOutcome → Text
  | .equal => word "EQUAL"
  | .short => word "SHORT"
  | .over => word "OVER"

/-- The spelling of the cause of a start-up (R165). -/
def Cause.text : Cause → Text
  | .start => word "START"
  | .restart => word "RESTART"
  | .reinit => word "REINIT"

/-- The spelling of the device state (R157, R165). -/
def deviceText (locked : Bool) : Text := if locked then word "LOCKED" else word "NORMAL"

/-- The baud figure of a host speed (R157). -/
def HostSpeed.baud : HostSpeed → Nat
  | .baud9600 => 9600
  | .baud19200 => 19200
  | .baud38400 => 38400
  | .baud115200 => 115200

/-- The host speed the straps HSPD1 and HSPD0 set (R176, the table). -/
def speedOf : Pins → HostSpeed
  | ⟨false, false, _⟩ => .baud9600
  | ⟨false, true, _⟩ => .baud19200
  | ⟨true, false, _⟩ => .baud38400
  | ⟨true, true, _⟩ => .baud115200

/-- The number of a Port, 1 to 6. -/
def portNumber (p : Port) : Nat := p.val + 1

/-- The Port a number names (R155: a Port outside 1 to 6 is no Port). -/
def portOf (n : Nat) : Option Port := if h : 1 ≤ n ∧ n ≤ 6 then some ⟨n - 1, by omega⟩ else none

/-! ### Figures and frames -/

/-- An absent figure: an empty field (R174). -/
def Figure.absent : Figure := .text []

/-- A flag as a figure (R174). -/
def Figure.flag (b : Bool) : Figure := .num (if b then 1 else 0)

/-- A number that may be absent. -/
def Figure.optional : Option Nat → Figure
  | some n => .num n
  | none => .text []

/-- A figure as the part writes it (R174). -/
def Figure.write : Figure → Text
  | .num n => decimal n
  | .int z => signedDecimal z
  | .text t => t

/-- A verb and its fields as one run of characters, each field after a separator (R173). -/
def joinFields (verb : Text) (fields : List Text) : Text :=
  verb ++ (fields.map fun f => separator :: f).flatten

/-- Splits a run of characters at its separators; `cur` is the part read so far. -/
def splitParts (cur : Text) : Text → List Text
  | [] => [cur]
  | c :: cs => if c = separator then cur :: splitParts [] cs else splitParts (cur ++ [c]) cs

/-- The frame a run of characters spells: the verb before the first separator, and as many fields as
there are separators (R152, R173). -/
def frameOf (body : Text) : Frame :=
  match splitParts [] body with
  | [] => ⟨[], []⟩
  | v :: fs => ⟨v, fs⟩

/-- The check value of a run of characters: the sum of their codes modulo 256 (R128, R173). -/
def checkSum (body : Text) : Chr := body.foldl (fun acc c => acc + c) 0

/-- The character of a hexadecimal digit, in capitals (R173). -/
def hexChar (d : Nat) : Chr := if d < 10 then BitVec.ofNat 8 (48 + d) else BitVec.ofNat 8 (55 + d)

/-- The value of a hexadecimal digit in capitals (R127). -/
def hexValue (c : Chr) : Option Nat :=
  if 48 ≤ c.toNat ∧ c.toNat ≤ 57 then some (c.toNat - 48)
  else if 65 ≤ c.toNat ∧ c.toNat ≤ 70 then some (c.toNat - 55)
  else none

/-- The two check digits of a check value (R173). -/
def checkDigits (c : Chr) : Text := [hexChar (c.toNat / 16), hexChar (c.toNat % 16)]

/-- What stands on the line after the open marker: body, check marker, check digits, close marker
(R173). -/
def afterOpen (body : Text) : Text :=
  body ++ checkMarker :: (checkDigits (checkSum body) ++ [closeMarker])

/-- A whole frame on the line (R173). -/
def layFrame (body : Text) : Text := openMarker :: afterOpen body

/-- The verb and fields of a reply to the host (R154, R150, R152). -/
def HostReply.body : HostReply → Text
  | .ok v figs => joinFields v.text (word "OK" :: figs.map Figure.write)
  | .adj v pos figs => joinFields v.text (word "ADJ" :: decimal pos :: figs.map Figure.write)
  | .no v w pos none => joinFields v.text [word "NO", w.text, decimal pos]
  | .no v w pos (some n) => joinFields v.text [word "NO", w.text, decimal pos, decimal n]
  | .unknown verb =>
    joinFields verb [word "NO", RefusalWord.text .unknown, decimal 0]
  | .frame reason => joinFields (word "FRAME") [word "NO", faultText reason]

/-- The characters of a reply on the host line (R173). -/
def HostReply.onLine (r : HostReply) : Text := layFrame r.body

/-- The five figures of a Profile (R109, R112, R123). -/
def Profile.figures (p : Profile) : List Figure :=
  [.num p.level, .text (writeClasses p.classes), .text (writeLetters p.surcharges), .num p.maxRun,
    .num p.block]

/-- The verb and fields of a record to a meter (section 11.4). -/
def MeterFrame.body : MeterFrame → Text
  | .accept p => joinFields (word "ACCEPT") (p.figures.map Figure.write)
  | .refuse => joinFields (word "REFUSE") [word "NOCOMMON"]
  | .badreq verb w pos => joinFields (word "BADREQ") [verb, w.text, decimal pos]
  | .wait id => joinFields (word "WAIT") [decimal id]
  | .runok id edition charge block =>
    joinFields (word "RUNOK") [decimal id, decimal edition, decimal charge, decimal block]
  | .grant id block => joinFields (word "GRANT") [decimal id, decimal block]
  | .ack id outstanding => joinFields (word "ACK") [decimal id, decimal outstanding]
  | .norun id => joinFields (word "NORUN") [decimal id]
  | .runend id reason printed spoiled =>
    joinFields (word "RUNEND") [decimal id, reason.text, decimal printed, decimal spoiled]
  | .halt id => joinFields (word "HALT") [decimal id]
  | .echo text => joinFields (word "ECHO") [text]

/-- The characters of a record on a meter line (R173). -/
def MeterFrame.onLine (f : MeterFrame) : Text := layFrame f.body

/-! ### Notice groups -/

/-- An optional Port as a figure (R163). -/
def Figure.port : Option Port → Figure
  | some p => .num (portNumber p)
  | none => .text []

/-- An optional serial as a figure (R110, R117). -/
def Figure.serial : Option Text → Figure
  | some t => .text t
  | none => .text []

/-- The figures of an optional Profile, empty when there is none (R112, R123). -/
def Figure.profile : Option Profile → List Figure
  | some p => p.figures
  | none => [.text [], .text [], .text [], .text [], .text []]

/-- A Notice as a group of a NOTICES reply: its kind, its Port or an empty field, and its figures in
the order of section 9.3 (R163). -/
def Notice.group : Notice → List Figure
  | .order kind port number amount pieces pool =>
    [.text (word "ORDER"), .port port, .text kind.text, .num number, .num amount, .optional pieces,
      .num pool]
  | .runwait p id total needed pool position =>
    [.text (word "RUNWAIT"), .port (some p), .num id, .num total, .num needed, .num pool, .num position]
  | .runend p id reason pieces printed spoiled charge used =>
    [.text (word "RUNEND"), .port (some p), .num id, .text reason.text, .num pieces, .num printed,
      .num spoiled, .num charge, .num used]
  | .nofunds p id total needed pool =>
    [.text (word "NOFUNDS"), .port (some p), .num id, .num total, .num needed, .num pool]
  | .poolshort p cause drawn available target pool =>
    [.text (word "POOLSHORT"), .port (some p),
      .text (match cause with | .queued => word "QUEUED" | .pool => word "POOL"), .num drawn,
      .num available, .num target, .num pool]
  | .attach p former serial profile =>
    [.text (word "ATTACH"), .port (some p),
      .text (if profile.isSome then word "ACCEPT" else word "REFUSE"), .text former.text,
      .text serial] ++ Figure.profile profile
  | .detach p left serial runId available reserved =>
    [.text (word "DETACH"), .port (some p), .text left.text, .serial serial, .num runId,
      .num available, .num reserved]
  | .meterreset p cause left runId available =>
    [.text (word "METERRESET"), .port (some p),
      .text (match cause with | .lineBreak => word "BREAK" | .command => word "COMMAND"),
      .text left.text, .num runId, .num available]
  | .meterchanged p former serial available reserved =>
    [.text (word "METERCHANGED"), .port (some p), .serial former, .text serial, .num available,
      .num reserved]
  | .stockdiff outcome e count =>
    [.text (word "STOCKDIFF"), .port none, .text outcome.text, .num e.line, .num e.denomination,
      .num e.book, .num e.counted, .int e.difference, .int e.value, .num count]
  | .rateswitch edition former runs =>
    [.text (word "RATESWITCH"), .port none, .num edition, .num former, .num runs]
  | .startup cause isLocked closed =>
    [.text (word "STARTUP"), .port none, .text cause.text, .text (deviceText isLocked), .num closed]
  | .locked => [.text (word "LOCKED"), .port none]

end Sys2Proof.Machine
end

