-- ==== Sys2Proof/Machine/Flags.lean ====
section
/-! DEFINITION. The latched conditions, LINE-GOOD, the host latched conditions and the attention
output: every flag the part sets, reads and clears (R121, R122, R156, R162). -/

namespace Sys2Proof.Machine

/-- The conditions in the order of the table of R121, the order in which PORTREP writes them. -/
def allConditions : List Condition :=
  [.lineError, .overrun, .unannouncedUse, .countMismatch, .silentClose, .shortDraw, .meterReset,
    .meterChanged]

/-- The letter by which PORTREP writes a condition (R121). -/
def Condition.char : Condition → Chr
  | .lineError => 69
  | .overrun => 79
  | .unannouncedUse => 85
  | .countMismatch => 67
  | .silentClose => 83
  | .shortDraw => 68
  | .meterReset => 82
  | .meterChanged => 77

/-- Whether a condition is in the set. -/
def Latches.has (l : Latches) : Condition → Bool
  | .lineError => l.lineError
  | .overrun => l.overrun
  | .unannouncedUse => l.unannouncedUse
  | .countMismatch => l.countMismatch
  | .silentClose => l.silentClose
  | .shortDraw => l.shortDraw
  | .meterReset => l.meterReset
  | .meterChanged => l.meterChanged

/-- The set with a condition joined to it (R121). -/
def Latches.add (l : Latches) : Condition → Latches
  | .lineError => { l with lineError := true }
  | .overrun => { l with overrun := true }
  | .unannouncedUse => { l with unannouncedUse := true }
  | .countMismatch => { l with countMismatch := true }
  | .silentClose => { l with silentClose := true }
  | .shortDraw => { l with shortDraw := true }
  | .meterReset => { l with meterReset := true }
  | .meterChanged => { l with meterChanged := true }

/-- The set as PORTREP writes it: the letters in the order of the table (R121, R123). -/
def Latches.letters (l : Latches) : Text := (allConditions.filter l.has).map Condition.char

/-- The working record of a Port. -/
def State.record (s : State) (p : Port) : PortRecord := s.records.get p

/-- Stores the working record of a Port. -/
def State.setRecord (p : Port) (r : PortRecord) (s : State) : State :=
  { s with records := s.records.set p r }

/-- Latches a condition on a Port (R121). -/
def State.latch (p : Port) (c : Condition) (s : State) : State :=
  s.setRecord p { s.record p with latched := (s.record p).latched.add c }

/-- Latches a condition where a cause holds. -/
def State.latchIf (b : Bool) (p : Port) (c : Condition) (s : State) : State :=
  if b then s.latch p c else s

/-- LINE-ERROR is latched and the termination reason becomes the last line error reason (R121). -/
def State.latchLineError (p : Port) (reason : FaultReason) (s : State) : State :=
  (s.latch p .lineError).setRecord p
    { (s.latch p .lineError).record p with lastError := some reason }

/-- A PORTREP empties the latched set, and LINE-GOOD takes the present line-up flag (R122, R124). -/
def PortRecord.afterRead (lineUp : Bool) (r : PortRecord) : PortRecord :=
  { r with latched := Latches.none, lineGood := lineUp }

/-- Stores the state of the Host Line Unit. -/
def State.setHost (h : HostUnit) (s : State) : State := { s with host := h }

/-- HOST-OVERRUN joins the host latched conditions (R148). -/
def State.latchHostOverrun (s : State) : State := s.setHost { s.host with overrun := true }

/-- HOST-FRAME-ERROR joins the host latched conditions (R150, R151). -/
def State.latchHostFrameError (s : State) : State := s.setHost { s.host with frameError := true }

/-- The host latched conditions as STATUS writes them (R157, position 8). -/
def HostUnit.latchText (h : HostUnit) : Text :=
  (if h.overrun then word "O" else []) ++ if h.frameError then word "F" else []

/-- The attention output: asserted exactly while the Notice Queue is non-empty (R162). -/
def State.attention (s : State) : Bool := !s.notices.isEmpty

end Sys2Proof.Machine
end

