-- ==== Sys2Proof/Machine/Ops.lean ====
section
/-! DEFINITION. The shared operations of the blocks: transmit slots, Notices, draws and reservations,
composition of a frame for a meter, the closure of a Run, and the pool-increase pass. -/

namespace Sys2Proof.Machine

/-! ### Transmit slots (R140, R147) -/

/-- The slot after a slot in the order A, B, A. -/
def SlotName.other : SlotName → SlotName
  | .A => .B
  | .B => .A

/-- Whether a slot is free. -/
def Slots.hasFree {φ : Type} : Slots φ → Bool
  | .two _ _ _ => false
  | _ => true

/-- Composes a frame into the slot next in order; with both slots full it leaves them. -/
def Slots.put {φ : Type} (f : φ) : Slots φ → Slots φ
  | .empty n => .one n f
  | .one a g => .two a g f
  | .two a g h => .two a g h

/-- The frame composed earliest, which the transmitter sends. -/
def Slots.first {φ : Type} : Slots φ → Option φ
  | .empty _ => none
  | .one _ f => some f
  | .two _ f _ => some f

/-- The frames in the slots, the one composed earliest first. -/
def Slots.frames {φ : Type} : Slots φ → List φ
  | .empty _ => []
  | .one _ f => [f]
  | .two _ f g => [f, g]

/-- The slot of the frame composed earliest frees. With the last frame gone the alternation goes on from its
slot (R140; log entry 8). -/
def Slots.release {φ : Type} : Slots φ → Slots φ
  | .empty n => .empty n
  | .one a _ => .empty a.other
  | .two a _ g => .one a.other g

/-- The slots after a host break (R151, step 3): a reply that has begun stays; every other reply is
discarded. When both slots are emptied the next reply goes into slot A; when only one is, because the
other held nothing or holds the reply that has begun, into that one. -/
def Slots.keepBegun {φ : Type} (begun : Bool) : Slots φ → Slots φ
  | .empty n => .empty n
  | .one a f => if begun then .one a f else .empty a
  | .two a f _ => if begun then .one a f else .empty .A

/-! ### Fields of State -/

/-- The Port Funds Record of a Port (R17). -/
def State.fundsOf (s : State) (p : Port) : PortFunds := s.ret.funds.get p

/-- Stores a Port Funds Record. -/
def State.setFunds (p : Port) (f : PortFunds) (s : State) : State :=
  { s with ret := { s.ret with funds := s.ret.funds.set p f } }

/-- The Run of a Port, if it has one (R55). -/
def State.runOf (s : State) (p : Port) : Option Run := s.ret.runs.get p

/-- Stores the Run Record slot of a Port. -/
def State.setRun (p : Port) (r : Option Run) (s : State) : State :=
  { s with ret := { s.ret with runs := s.ret.runs.set p r } }

/-- Stores the Credit Pool. -/
def State.setPool (n : Nat) (s : State) : State := { s with ret := { s.ret with pool := n } }

/-- Stores the Waiting Run Queue. -/
def State.setQueue (q : List Port) (s : State) : State := { s with ret := { s.ret with queue := q } }

/-- The Meter Line Unit of a Port. -/
def State.mlu (s : State) (p : Port) : Mlu := s.mlus.get p

/-- Stores a Meter Line Unit. -/
def State.setMlu (p : Port) (m : Mlu) (s : State) : State := { s with mlus := s.mlus.set p m }

/-- The Last Meter Serial of a Port. -/
def State.serialOf (s : State) (p : Port) : Option Text := s.ret.serials.get p

/-- The suspended flag of a Port. -/
def State.suspendedOf (s : State) (p : Port) : Bool := s.ret.suspended.get p

/-- The six Ports in port order. -/
def allPorts : List Port := [0, 1, 2, 3, 4, 5]

/-- Whether a Port is attached to a line that is up and not looped: UNANNOUNCED, READY or REFUSED. -/
def PortState.attached : PortState → Bool
  | .unannounced | .ready | .refused => true
  | .absent | .loopback => false

/-! ### Notices (R161) -/

/-- Posts a Notice: at a full queue the oldest entry is discarded and LOST is set; then the Notice
joins the tail. -/
def State.post (n : Notice) (s : State) : State :=
  if s.notices.length < Config.noticeMax then { s with notices := s.notices ++ [n] }
  else { s with notices := s.notices.drop 1 ++ [n], lost := true }

/-! ### Draws and reservations (chapter 2) -/

/-- The value of the Outstanding pieces of a Port's Run when it is ACTIVE or CANCELLING (R21). -/
def State.outstandingValue (s : State) (p : Port) : Nat :=
  match s.runOf p with
  | some r => if r.state = .waiting then 0 else r.outstanding * r.charge
  | none => 0

/-- The Holding of a Port (R21). -/
def State.holding (s : State) (p : Port) : Nat :=
  (s.fundsOf p).available + (s.fundsOf p).reserved + s.outstandingValue p

/-- The Headroom of a Port (R21). -/
def State.headroom (s : State) (p : Port) : Nat := Config.balanceMax - s.holding p

/-- The Want of a Port: its Target minus its Available, limited to its Headroom (R24). -/
def State.want (s : State) (p : Port) : Nat :=
  min ((s.fundsOf p).target - (s.fundsOf p).available) (s.headroom p)

/-- Draws an amount from the Credit Pool into a Port's Available. -/
def State.draw (p : Port) (amount : Nat) (s : State) : State :=
  (s.setPool (s.ret.pool - amount)).setFunds p
    { s.fundsOf p with available := (s.fundsOf p).available + amount }

/-- Sets or clears a Port's Short flag. -/
def State.setShort (p : Port) (b : Bool) (s : State) : State :=
  s.setFunds p { s.fundsOf p with short := b }

/-- The Short flag is set; when it passes from clear to set, SHORT-DRAW is latched and a POOLSHORT
Notice posted (R25). -/
def State.markShort (p : Port) (cause : ShortCause) (drawn : Nat) (s : State) : State :=
  if (s.fundsOf p).short then s
  else
    ((s.setShort p true).latch p .shortDraw).post
      (.poolshort p cause drawn (s.fundsOf p).available (s.fundsOf p).target s.ret.pool)

/-- The low-mark check of a Port (R24). -/
def State.lowMarkCheck (p : Port) (s : State) : State :=
  if (s.fundsOf p).target ≤ (s.fundsOf p).available then s.setShort p false
  else if (s.fundsOf p).lowMark ≤ (s.fundsOf p).available then s
  else if s.ret.queue ≠ [] then s.markShort p .queued 0
  else if s.want p ≤ s.ret.pool then (s.draw p (s.want p)).setShort p false
  else (s.draw p s.ret.pool).markShort p .pool s.ret.pool

/-- The reservation draw for a Run Total, 0 when Available covers it (R22). -/
def State.reservationDraw (s : State) (p : Port) (total : Nat) : Nat :=
  if total ≤ (s.fundsOf p).available then 0
  else min s.ret.pool
    (min (total - (s.fundsOf p).available + (s.fundsOf p).target) (s.headroom p))

/-- Reserves a Run Total on a Port after its reservation draw (R22, R23). -/
def State.reserve (p : Port) (total : Nat) (s : State) : State :=
  let d := s.draw p (s.reservationDraw p total)
  d.setFunds p
    { d.fundsOf p with
      available := (d.fundsOf p).available - total
      reserved := (d.fundsOf p).reserved + total }

/-! ### Composing a frame for a meter (R67, R68, R140, R141) -/

/-- The transmitter begins the frame composed earliest, unless it is sending one, is held by the
meter or drives a break (R139, R143). -/
def Mlu.beginNext (m : Mlu) : Mlu :=
  { m with sending := m.sending || (m.slots.first.isSome && !m.heldByMeter && !m.drivingBreak) }

/-- The silence timer of a Port's Run restarts, reading the Silence Limit afresh (R68). -/
def State.restartSilence (p : Port) (s : State) : State :=
  match s.runOf p with
  | some r => s.setRun p (some { r with silenceDeadline := some (s.fundsOf p).silenceLimit })
  | none => s

/-- The debit of a Grant Block of `b` pieces on a Port (R67). -/
def State.debit (p : Port) (b : Nat) (s : State) : State :=
  match s.runOf p with
  | some r =>
    (s.setRun p (some { r with granted := r.granted + b })).setFunds p
      { s.fundsOf p with
        reserved := (s.fundsOf p).reserved - b * r.charge
        usedValue := (s.fundsOf p).usedValue + b * r.charge
        usedPieces := (s.fundsOf p).usedPieces + b }
  | none => s

/-- Places a frame in a Port's slot next in order; an idle transmitter begins it. -/
def State.putFrame (p : Port) (f : MeterFrame) (s : State) : State :=
  s.setMlu p (Mlu.beginNext { s.mlu p with slots := (s.mlu p).slots.put f })

/-- Composes a frame for a meter into a free slot, with what belongs to its composition: the debit of
its Grant Block and the restart of the silence timer (R67, R68). -/
def State.compose (p : Port) (f : MeterFrame) (s : State) : State :=
  match f with
  | .runok _ _ _ b => ((s.putFrame p f).debit p b).restartSilence p
  | .grant _ b => ((s.putFrame p f).debit p b).restartSilence p
  | .halt _ => (s.putFrame p f).restartSilence p
  | _ => s.putFrame p f

/-- A frame the part sends unasked: composed at once if a slot is free and no Owed Frame is pending,
and otherwise made the Owed Frame in place of the one pending (R141, R81). -/
def State.sendUnasked (p : Port) (f : MeterFrame) (s : State) : State :=
  if (s.mlu p).slots.hasFree && (s.mlu p).owed.isNone then s.compose p f
  else s.setMlu p { s.mlu p with owed := some f }

/-! ### The closure of a Run (R59) -/

/-- The value used by a Run (R59). -/
def Run.used (r : Run) : Nat := r.granted * r.charge

/-- The RUNEND Notice of a closed Run (R84). -/
def runendNotice (p : Port) (r : Run) (reason : RunReason) : Notice :=
  .runend p r.id reason r.pieces r.printed r.spoiled r.charge r.used

/-- The RUNEND record of a closed Run (R69). -/
def runendFrame (r : Run) (reason : RunReason) : MeterFrame := .runend r.id reason r.printed r.spoiled

/-- A Port's whole Reserved returns to its Available (R59, step 2). -/
def State.returnReserved (p : Port) (s : State) : State :=
  s.setFunds p
    { s.fundsOf p with
      available := (s.fundsOf p).available + (s.fundsOf p).reserved
      reserved := 0 }

/-- A Port's Run leaves the Waiting Run Queue and its Run Record slot becomes empty (R59, steps 3
and 4). -/
def State.removeRun (p : Port) (s : State) : State :=
  (s.setRun p none).setQueue (s.ret.queue.filter fun q => q ≠ p)

/-- A Run with its Outstanding counted as printed (R76, R78, R82, R83). -/
def Run.allPrinted (r : Run) : Run := { r with printed := r.granted }

/-- Closes the Run of a Port, whose final counts `r` holds, with no record to the meter (R59). -/
def State.closeSilently (p : Port) (r : Run) (reason : RunReason) (s : State) : State :=
  ((s.returnReserved p).removeRun p).post (runendNotice p r reason)

/-- Closes the Run of a Port and sends its RUNEND record unasked (R59, R81). -/
def State.closeUnasked (p : Port) (r : Run) (reason : RunReason) (s : State) : State :=
  (((s.returnReserved p).removeRun p).sendUnasked p (runendFrame r reason)).post
    (runendNotice p r reason)

/-! ### The pool-increase pass (R9 to R11, R65) -/

/-- Serves the head Run `r` of the Waiting Run Queue, which is Port `p`'s (R10, R65). -/
def State.serveHead (p : Port) (r : Run) (s : State) : State :=
  let reserved := s.reserve p r.total
  let active := (reserved.setQueue (s.ret.queue.drop 1)).setRun p
    (some { r with
      state := .active
      waitDeadline := none
      silenceDeadline := some (s.fundsOf p).silenceLimit })
  (active.lowMarkCheck p).sendUnasked p (.runok r.id r.edition r.charge (min r.block r.pieces))

/-- Step 1 of the pass: serves heads until one cannot be served; `fuel` bounds the heads (R10). -/
def State.passStep1 : Nat → State → State
  | 0, s => s
  | fuel + 1, s =>
    match s.ret.queue with
    | [] => s
    | p :: _ =>
      match s.runOf p with
      | none => s
      | some r =>
        if r.total ≤ (s.fundsOf p).available + s.ret.pool then passStep1 fuel (s.serveHead p r)
        else s

/-- A visit of step 2 of the pass to one Port (R11). -/
def State.topUp (p : Port) (s : State) : State :=
  if (s.fundsOf p).short then
    if (s.fundsOf p).target ≤ (s.fundsOf p).available then s.setShort p false
    else (s.draw p (min s.ret.pool (s.want p))).setShort p (s.ret.pool < s.want p)
  else s

/-- Step 2 of the pass: only with the queue empty, the Ports in port order (R11). -/
def State.passStep2 (s : State) : State :=
  if s.ret.queue = [] then allPorts.foldl (fun t p => t.topUp p) s else s

/-- The pool-increase pass (R9). -/
def State.pass (s : State) : State := (s.passStep1 s.ret.queue.length).passStep2

/-! ### The discards of a Meter Line Unit (R134) -/

/-- The discards at a meter reset and at line down (R134, steps 1 to 4). -/
def Mlu.discard (m : Mlu) : Mlu :=
  { m with
    inputs := []
    slots := .empty .A
    sending := false
    owed := none
    heldByUs := false
    heldByMeter := false
    flowOut := none
    flowWaiting := false }

/-! ### Sums over the Ports and the Stock Lines (R14, R15) -/

/-- The sum of a figure over the entries of a table. -/
def sumOver {α : Type} {n : Nat} (v : Vector α n) (f : α → Nat) : Nat := (v.toList.map f).sum

/-! ### What the line pins carry (R175, R176) -/

/-- What a transmit pin carries: marking, the space of a break, or the characters of a frame being sent,
a flow character between them (R138, R176). -/
inductive TransmitPin where
  | marking | space | characters
  deriving DecidableEq, Repr

/-- The transmit pin of a line (R176). It marks when the line is idle, during line down, from supply
failing to the next start-up, and on a Port in LOOPBACK, whose transmitter is looped back inside the part
(R144, R168). A METERRESET drives it to space (R143). -/
def State.transmitPin (s : State) : Line → TransmitPin
  | .host => if s.power = .running && !s.host.slots.frames.isEmpty then .characters else .marking
  | .meter p =>
    if s.power = .stopped || (s.record p).state = .loopback || (s.record p).state = .absent then .marking
    else if (s.mlu p).drivingBreak then .space
    else if (s.mlu p).sending then .characters
    else .marking

/-- The flow character last due on a meter line that is not looped, with its parity bit, once it has gone
out (R138, R175). -/
def State.flowSent (s : State) (p : Port) : Option (Chr × Bool) :=
  if (s.mlu p).flowWaiting then none
  else (s.mlu p).flowOut.map fun f => (Flow.char f, parityBit (Flow.char f))

end Sys2Proof.Machine
end

