-- ==== Sys2Proof/Machine/Operands.lean ====
section
/-! DEFINITION. The forms a field of a request may take and the treatment of values out of range
(R153, R155). A request is either refused, and then nothing changes, or answered with the state it
leaves and its reply (R154). -/

namespace Sys2Proof.Machine

/-- A refusal: its word, the position of the field at fault, and the further figure that DUPLICATE,
GAP and MISMATCH carry (R154). -/
structure Refused where
  word : RefusalWord
  pos : Nat
  extra : Option Nat
  deriving DecidableEq, Repr

/-- A check that either passes with a value or refuses. -/
abbrev Checked (α : Type) := Except Refused α

/-- What an owning block makes of a request: a refusal, which changes nothing, or the state the
request leaves and its reply. -/
abbrev Answered := Checked (State × HostReply)

/-- A refusal with no further figure. -/
def refuse {α : Type} (w : RefusalWord) (pos : Nat) : Checked α := .error ⟨w, pos, none⟩

/-- Refuses when a condition holds. -/
def refuseIf (b : Prop) [Decidable b] (w : RefusalWord) (pos : Nat) : Checked Unit :=
  if b then refuse w pos else .ok ()

/-- The value of an optional result, or a refusal where there is none. -/
def orRefuse {α : Type} (o : Option α) (w : RefusalWord) (pos : Nat) : Checked α :=
  match o with
  | some a => .ok a
  | none => refuse w pos

/-- The field at a position, counted from 1 (section 4.5 of the scope file). -/
def fieldAt (fs : List Text) (pos : Nat) : Text := fs.getD (pos - 1) []

/-- A required number field of at most `most` digits: FORMAT for any other content (R153). -/
def number (fs : List Text) (pos most : Nat) : Checked Nat :=
  orRefuse (readNumber most (fieldAt fs pos)) .format pos

/-- A number field that may be empty (R153). -/
def optionalNumber (fs : List Text) (pos most : Nat) : Checked (Option Nat) :=
  if fieldAt fs pos = [] then .ok none
  else
    match readNumber most (fieldAt fs pos) with
    | some n => .ok (some n)
    | none => refuse .format pos

/-- A required word field: FORMAT when empty, RANGE for any other word (R153, R87). -/
def wordField {α : Type} (read : Text → Option α) (fs : List Text) (pos : Nat) : Checked α := do
  refuseIf (fieldAt fs pos = []) .format pos
  orRefuse (read (fieldAt fs pos)) .range pos

/-- A value that names the `n`-th of `size` things: RANGE when there is no such thing (R155). -/
def named (size n pos : Nat) : Checked (Fin size) :=
  if h : 1 ≤ n ∧ n ≤ size then .ok ⟨n - 1, by omega⟩ else refuse .range pos

/-- A value clamped to the nearer end of its range (R155). -/
def clamp (lo hi n : Nat) : Nat := max lo (min hi n)

/-- The reply to a request carried out: OK, or ADJ with the first field adjusted (R154). -/
def settled (v : HostVerb) (adjusted : Option Nat) (figs : List Figure) : HostReply :=
  match adjusted with
  | none => .ok v figs
  | some pos => .adj v pos figs

/-- The position of the first field adjusted, of those listed with whether each was (R154). -/
def firstAdjusted : List (Nat × Bool) → Option Nat
  | [] => none
  | (pos, b) :: rest => if b then some pos else firstAdjusted rest

/-- One of the two Rate Tables, as a QUOTE or a RATEREP names it (R52, R54). -/
inductive TableName where
  | current | next
  deriving DecidableEq, Repr

/-- The table field of a QUOTE or a RATEREP (R52, R54). -/
def readTable (t : Text) : Option TableName :=
  if t = word "CURRENT" then some .current else if t = word "NEXT" then some .next else none

/-- The table a name stands for. -/
def State.table (s : State) : TableName → RateTable
  | .current => s.ret.current
  | .next => s.ret.next

/-- The part field of a RATEREP: a class, the surcharges or the tiers (R54). -/
inductive TablePart where
  | ofClass (c : Nat)
  | surcharges
  | tiers
  deriving DecidableEq, Repr

/-- The part field of a RATEREP (R54). -/
def readPart (t : Text) : Option TablePart :=
  if t = word "S" then some .surcharges
  else if t = word "T" then some .tiers
  else match t with
    | [c] => (classOf c).map .ofClass
    | _ => none

/-- The form field of a LINE (R87). -/
def readForm (t : Text) : Option StockForm :=
  [StockForm.sheet, .booklet, .coil, .single].find? fun f => f.text = t

/-- The state field of a LINE: OPEN or RETIRED (R87). -/
def readStockState (t : Text) : Option StockState :=
  [StockState.onSale, .retired].find? fun f => f.text = t

/-- The mode field of a LOOP: ON is `true` (R144). -/
def readMode (t : Text) : Option Bool :=
  if t = word "ON" then some true else if t = word "OFF" then some false else none

end Sys2Proof.Machine
end

