-- ==== Sys2Proof/Machine/Funds.lean ====
section
/-! DEFINITION. The Funds Unit: the Orders (chapter 1) and the requests on an Allotment (chapter 2). -/

namespace Sys2Proof.Machine

/-- The checks of an Order's number (R4, checks 2 to 4). -/
def checkOrderNumber (order : Nat) (s : State) : Checked Unit :=
  if s.ret.lastOrder = Config.orderNumberMax then refuse .exhausted 0
  else if order ≤ s.ret.lastOrder then .error ⟨.duplicate, 1, some s.ret.lastOrder⟩
  else if s.ret.lastOrder + 1 < order then .error ⟨.gap, 1, some s.ret.lastOrder⟩
  else .ok ()

/-- An Order that credits the Credit Pool and Credited Total (R5, R7). -/
def State.creditOrder (order amount : Nat) (s : State) : State :=
  { s with ret := { s.ret with
      pool := s.ret.pool + amount
      credited := s.ret.credited + amount
      lastOrder := order } }

/-- The changes of an accepted REFILL before its pass: the credit and its ORDER Notice (R5, R8). -/
def State.refilled (order amount : Nat) (s : State) : State :=
  (s.creditOrder order amount).post
    (.order .refill none order amount none (s.ret.pool + amount))

/-- REFILL;order;amount (R5, R8). -/
def refillRequest (fs : List Text) (s : State) : Answered := do
  let order ← number fs 1 6
  let amount ← number fs 2 8
  checkOrderNumber order s
  refuseIf (amount < 1 ∨ Config.orderAmountMax < amount) .range 2
  refuseIf (Config.balanceMax < s.ret.pool + amount) .poolfull 2
  refuseIf (Config.lifetimeMax < s.ret.credited + amount) .full 2
  let t := (s.refilled order amount).pass
  return (t, .ok .refill [.num order, .num t.ret.pool])

/-- The changes of an accepted WITHDRAW (R6, R8). -/
def State.withdrawn (order amount : Nat) (s : State) : State :=
  ({ s with ret := { s.ret with
      pool := s.ret.pool - amount
      withdrawn := s.ret.withdrawn + amount
      lastOrder := order } } : State).post
    (.order .withdraw none order amount none (s.ret.pool - amount))

/-- WITHDRAW;order;amount (R6, R8). -/
def withdrawRequest (fs : List Text) (s : State) : Answered := do
  let order ← number fs 1 6
  let amount ← number fs 2 8
  checkOrderNumber order s
  refuseIf (amount < 1 ∨ Config.orderAmountMax < amount) .range 2
  refuseIf (s.ret.queue ≠ []) .queued 0
  refuseIf (s.ret.pool < amount) .short 2
  refuseIf (Config.lifetimeMax < s.ret.withdrawn + amount) .full 2
  let t := s.withdrawn order amount
  return (t, .ok .withdraw [.num order, .num t.ret.pool])

/-- The changes of an accepted SPOILREF before its pass (R7, R8). -/
def State.spoilRefunded (order : Nat) (p : Port) (pieces amount : Nat) (s : State) : State :=
  ((s.setFunds p
      { s.fundsOf p with
        spoilPieces := (s.fundsOf p).spoilPieces - pieces
        spoilValue := (s.fundsOf p).spoilValue - amount }).creditOrder order amount).post
    (.order .spoilref (some p) order amount (some pieces) (s.ret.pool + amount))

/-- SPOILREF;order;port;pieces;amount (R7, R8). -/
def spoilrefRequest (fs : List Text) (s : State) : Answered := do
  let order ← number fs 1 6
  let port ← number fs 2 1
  let pieces ← number fs 3 13
  let amount ← number fs 4 8
  checkOrderNumber order s
  let p ← named 6 port 2
  refuseIf (pieces < 1 ∨ Config.lifetimeMax < pieces) .range 3
  refuseIf (amount < 1 ∨ Config.orderAmountMax < amount) .range 4
  refuseIf ((s.fundsOf p).spoilPieces < pieces) .excess 3
  refuseIf ((s.fundsOf p).spoilValue < amount) .excess 4
  refuseIf (Config.balanceMax < s.ret.pool + amount) .poolfull 4
  refuseIf (Config.lifetimeMax < s.ret.credited + amount) .full 4
  let t := (s.spoilRefunded order p pieces amount).pass
  return (t, .ok .spoilref [.num order, .num t.ret.pool])

/-- The changes of an accepted RECALL before its pass (R26). -/
def State.recalled (p : Port) (amount : Nat) (s : State) : State :=
  (s.setPool (s.ret.pool + amount)).setFunds p
    { s.fundsOf p with available := (s.fundsOf p).available - amount, short := false }

/-- RECALL;port;[amount] (R26). -/
def recallRequest (fs : List Text) (s : State) : Answered := do
  let port ← number fs 1 1
  let given ← optionalNumber fs 2 8
  let p ← named 6 port 1
  refuseIf (given = some 0) .range 2
  let amount := given.getD (s.fundsOf p).available
  refuseIf ((s.fundsOf p).available < amount) .short 2
  refuseIf (Config.balanceMax < s.ret.pool + amount) .poolfull 2
  let t := (s.recalled p amount).pass
  return (t, .ok .recall [.num amount, .num (t.fundsOf p).available, .num t.ret.pool])

/-- The largest Low Mark and Target (R17, R28). -/
def levelMax : Nat := 9999999

/-- LEVELS;port;[low];[target] (R28). -/
def levelsRequest (fs : List Text) (s : State) : Answered := do
  let port ← number fs 1 1
  let low? ← optionalNumber fs 2 8
  let target? ← optionalNumber fs 3 8
  let p ← named 6 port 1
  let low0 := low?.getD (s.fundsOf p).lowMark
  let target0 := target?.getD (s.fundsOf p).target
  let low := clamp 0 levelMax low0
  let target := max low (clamp 0 levelMax target0)
  let t := (s.setFunds p { s.fundsOf p with lowMark := low, target := target }).lowMarkCheck p
  return (t, settled .levels (firstAdjusted [(2, low ≠ low0), (3, target ≠ target0)])
    [.num low, .num target, .num (t.fundsOf p).available, .flag (t.fundsOf p).short])

/-- LIMITS;port;[runvalue];[silence];[wait] (R29). -/
def limitsRequest (fs : List Text) (s : State) : Answered := do
  let port ← number fs 1 1
  let run? ← optionalNumber fs 2 8
  let silence? ← optionalNumber fs 3 3
  let wait? ← optionalNumber fs 4 3
  let p ← named 6 port 1
  let run := (run?.map (clamp 1 Config.balanceMax)).getD (s.fundsOf p).runLimit
  let silence := (silence?.map (clamp 5 300)).getD (s.fundsOf p).silenceLimit
  let wait := (wait?.map (clamp 10 600)).getD (s.fundsOf p).waitLimit
  let t := s.setFunds p
    { s.fundsOf p with runLimit := run, silenceLimit := silence, waitLimit := wait }
  return (t, settled .limits
    (firstAdjusted [(2, run?.any (· ≠ run)), (3, silence?.any (· ≠ silence)),
      (4, wait?.any (· ≠ wait))])
    [.num run, .num silence, .num wait])

/-- The value of the stock on hand over the 24 Stock Lines (R15, position 7). -/
def State.stockValue (s : State) : Nat := sumOver s.ret.stock StockLine.value

/-- The sold value over the 24 Stock Lines (R15, position 8). -/
def State.soldValue (s : State) : Nat := sumOver s.ret.stock StockLine.soldValue

/-- The nine figures of a FUNDS report (R15). -/
def State.fundsFigures (s : State) : List Figure :=
  [.num s.ret.pool, .num s.ret.credited, .num s.ret.withdrawn, .num s.ret.surplus,
    .num s.ret.shortage, .num s.ret.lastOrder, .num s.stockValue, .num s.soldValue,
    .num s.ret.queue.length]

/-- FUNDS (R15). -/
def fundsRequest (s : State) : Answered := return (s, .ok .funds s.fundsFigures)

/-- The thirteen figures of a PORTFUNDS report (R32). -/
def PortFunds.figures (p : Port) (f : PortFunds) : List Figure :=
  [.num (portNumber p), .num f.available, .num f.reserved, .num f.usedValue, .num f.usedPieces,
    .num f.spoilPieces, .num f.spoilValue, .num f.lowMark, .num f.target, .flag f.short,
    .num f.runLimit, .num f.silenceLimit, .num f.waitLimit]

/-- PORTFUNDS;port (R32). -/
def portfundsRequest (fs : List Text) (s : State) : Answered := do
  let port ← number fs 1 1
  let p ← named 6 port 1
  return (s, .ok .portfunds ((s.fundsOf p).figures p))

end Sys2Proof.Machine
end

