-- ==== Sys2Proof/Machine/Receiver.lean ====
section
/-! DEFINITION. The receiver of a line: the frame shape, the terminations and the three states
(R126 to R131). One design serves all seven lines (section 7.1). -/

namespace Sys2Proof.Machine

/-- How a frame ends: COMPLETE, with the frame, or with another reason (R127 to R130). -/
inductive Termination where
  | complete (frame : Frame)
  | fault (reason : FaultReason)
  deriving DecidableEq, Repr

/-- The characters of a body before its check marker: the verb and the fields (R128). -/
def bodyContent (body : Text) : Text := body.takeWhile fun c => c ≠ checkMarker

/-- The characters of a body after its check marker, none when it has none yet. -/
def bodyDigits (body : Text) : Option Text :=
  match body.dropWhile fun c => c ≠ checkMarker with
  | [] => none
  | _ :: ds => some ds

/-- Whether a clean character other than the close marker continues a frame (R127). -/
def continues (body : Text) (c : Chr) : Bool :=
  match bodyDigits body with
  | none => c = checkMarker || (32 ≤ c.toNat && c.toNat ≤ 122)
  | some ds => ds.length < 2 && (hexValue c).isSome

/-- Whether a body is complete up to its close marker: two check digits follow the check marker
(R127). -/
def awaitsClose (body : Text) : Bool :=
  match bodyDigits body with
  | some ds => ds.length = 2
  | none => false

/-- Whether the check digits of a body agree with its check sum (R128). -/
def checkAgrees (body : Text) : Bool :=
  bodyDigits body = some (checkDigits (checkSum (bodyContent body)))

/-- The end of a frame at its close marker (R128). -/
def closeFrame (body : Text) : Termination :=
  if checkAgrees body then .complete (frameOf (bodyContent body)) else .fault .check

/-- The state a receiver takes at a termination (R126). -/
def Termination.next : Termination → Receiver
  | .complete _ => .ready
  | .fault _ => .idleWait

/-- A termination with the state the receiver takes. -/
def terminate (t : Termination) : Receiver × Option Termination := (t.next, some t)

/-- A clean character in COLLECT (R127, R128): the frame goes on, or it ends. -/
def collectClean (maxFrame : Nat) (body : Text) (c : Chr) : Receiver × Option Termination :=
  if c = closeMarker && awaitsClose body then terminate (closeFrame body)
  else if continues body c then
    if maxFrame ≤ body.length + 2 then terminate (.fault .overlength)
    else (.collect (body ++ [c]) false, none)
  else terminate (.fault .badchar)

/-- A character other than a clean flow character, in any state (R126, R127, R129). A character that
comes while the frame is held open at space shows that the line returned to marking first, so the
frame ended FRAMING at the return (log entry 16). -/
def Receiver.receive (maxFrame : Nat) (c : Chr) (e : CharError) :
    Receiver → Receiver × Option Termination
  | .idleWait => (.idleWait, none)
  | .ready => if e = .clean ∧ c = openMarker then (.collect [] false, none) else (.idleWait, none)
  | .collect _ true => terminate (.fault .framing)
  | .collect body false =>
    match e with
    | .parity => terminate (.fault .parity)
    | .stopBit => if c = 0 then (.collect body true, none) else terminate (.fault .framing)
    | .clean => collectClean maxFrame body c

/-- A flow character leaves the receiver as it is (R131), but for a frame held open at space, which
ended FRAMING when the line returned to marking (R129, log entry 16). -/
def Receiver.flow : Receiver → Receiver × Option Termination
  | .collect _ true => terminate (.fault .framing)
  | r => (r, none)

/-- A termination with a reason found outside the characters: only a frame being collected ends. -/
def Receiver.fault (reason : FaultReason) : Receiver → Receiver × Option Termination
  | .collect _ _ => terminate (.fault reason)
  | r => (r, none)

/-- The close marker of a frame arrives in its place with agreeing check digits: the frame ends
COMPLETE (R128). In every other case the event does not reach the receiver. -/
def Receiver.complete : Receiver → Receiver × Option Termination
  | .collect body false =>
    if awaitsClose body && checkAgrees body then terminate (closeFrame body)
    else (.collect body false, none)
  | r => (r, none)

/-- The idle gap has elapsed (R126). -/
def Receiver.idleGap : Receiver → Receiver
  | .idleWait => .ready
  | r => r

/-- A character error as a line can have it: the host line has no parity bit (R129). -/
def Line.error : Line → CharError → CharError
  | .host, .parity => .clean
  | _, e => e

end Sys2Proof.Machine
end

