-- ==== Sys2Proof/Machine/Charge.lean ====
section
/-! DEFINITION. The Charge Unit: loading and activating Rate Tables, the Charge Computation, quotes
and table reports (chapter 3). -/

namespace Sys2Proof.Machine

/-! ### The Charge Computation (R45 to R51) -/

/-- The refusals of the Charge Computation, in its order (R45). -/
inductive ChargeFault where
  | noclass | noband | nosurch | zero | overflow
  deriving DecidableEq, Repr

/-- The figures of a successful computation (R51). -/
structure ChargeResult where
  edition : Nat
  bandSlot : Nat
  tierSlot : Nat
  rate : Nat
  perMille : Nat
  discounted : Nat
  charge : Nat
  total : Nat
  deriving DecidableEq, Repr

/-- The present entries of a table of slots with their slot numbers, counted from 1. -/
def presentSlots {α : Type} {n : Nat} (v : Vector (Option α) n) : List (Nat × α) :=
  v.toList.zipIdx.filterMap fun e => e.1.map fun a => (e.2 + 1, a)

/-- The present bands of a class with their slot numbers, none for a class outside 1 to 8 (R46). -/
def RateTable.classBands (t : RateTable) (c : Nat) : List (Nat × Band) :=
  if h : 1 ≤ c ∧ c ≤ 8 then presentSlots (t.bands.get ⟨c - 1, by omega⟩) else []

/-- The first entry of a list with the least key: ties go to the earlier entry. -/
def firstLeast {α : Type} (key : α → Nat) : List α → Option α
  | [] => none
  | a :: rest =>
    match firstLeast key rest with
    | some b => if key b < key a then some b else some a
    | none => some a

/-- The first entry of a list with the greatest key: ties go to the earlier entry. -/
def firstGreatest {α : Type} (key : α → Nat) : List α → Option α
  | [] => none
  | a :: rest =>
    match firstGreatest key rest with
    | some b => if key a < key b then some b else some a
    | none => some a

/-- Band lookup among the present bands of a class (R46). -/
def bandLookup (bands : List (Nat × Band)) (w : Nat) : Except ChargeFault (Nat × Band) :=
  if bands = [] then .error .noclass
  else if bands.all (fun e => w < e.2.lower) || bands.all (fun e => e.2.upper < w) then
    .error .noband
  else
    match firstLeast (fun e => e.2.upper) (bands.filter fun e => e.2.lower ≤ w && w ≤ e.2.upper) with
    | some e => .ok e
    | none =>
      match firstLeast (fun e => e.2.lower) (bands.filter fun e => w < e.2.lower) with
      | some e => .ok e
      | none => .error .noband

/-- Tier selection for a count of pieces: the tier slot and the per mille, both 0 when no tier is
taken (R47). -/
def RateTable.tierFor (t : RateTable) (n : Nat) : Nat × Nat :=
  match firstGreatest (fun e : Nat × Tier => e.2.minimum)
      ((presentSlots t.tiers).filter fun e => e.2.minimum ≤ n) with
  | some e => (e.1, e.2.perMille)
  | none => (0, 0)

/-- The discounted base, rounded half up (R48). -/
def discountedBase (b k : Nat) : Nat := (b * (1000 - k) + 500) / 1000

/-- The place of a surcharge letter in a Rate Table. -/
def Letter.index : Letter → Fin 6
  | .A => 0
  | .B => 1
  | .C => 2
  | .D => 3
  | .E => 4
  | .F => 5

/-- The amount of a surcharge in a table, if present (R33). -/
def RateTable.surcharge (t : RateTable) (l : Letter) : Option Nat := t.surcharges.get (Letter.index l)

/-- The sum of the surcharges of a set, none if a letter is absent in the table (R49). -/
def RateTable.surchargeSum (t : RateTable) : List Letter → Option Nat
  | [] => some 0
  | l :: ls =>
    match t.surcharge l, t.surchargeSum ls with
    | some a, some b => some (a + b)
    | _, _ => none

/-- The Charge Computation on a table for a class, a weight, a set of surcharges and a count of pieces
(R45 to R51). `letters` is absent when the surcharge field holds a character that names no admitted
surcharge: that is the third check, NOSURCH, as an absent letter is (R62, order 8). -/
def computeCharge (t : RateTable) (c w : Nat) (letters : Option (List Letter)) (n : Nat) :
    Except ChargeFault ChargeResult := do
  let band ← bandLookup (t.classBands c) w
  let tier := t.tierFor n
  let d := discountedBase band.2.rate tier.2
  match letters.bind t.surchargeSum with
  | none => .error .nosurch
  | some sum =>
    if d + sum = 0 then .error .zero
    else if Config.balanceMax < (d + sum) * n then .error .overflow
    else .ok ⟨t.edition, band.1, tier.1, band.2.rate, tier.2, d, d + sum, (d + sum) * n⟩

/-! ### Loading NEXT (R35 to R41) -/

/-- The heaviest weight of a band (R33). -/
def weightMax : Nat := 20000

/-- Stores the table NEXT. -/
def State.setNext (t : RateTable) (s : State) : State := { s with ret := { s.ret with next := t } }

/-- Stores one band slot of NEXT. -/
def State.setBand (c : Fin 8) (k : Fin 10) (b : Option Band) (s : State) : State :=
  s.setNext { s.ret.next with bands := s.ret.next.bands.set c ((s.ret.next.bands.get c).set k b) }

/-- BAND;class;slot;[lower];[upper];[rate]: stores a band (R35) or, with its lower field empty, empties
its slot (R36). -/
def bandRequest (fs : List Text) (s : State) : Answered := do
  let c ← number fs 1 1
  let k ← number fs 2 2
  let lower? ← optionalNumber fs 3 6
  let upper? ← optionalNumber fs 4 6
  let rate? ← optionalNumber fs 5 7
  let ci ← named 8 c 1
  let ki ← named 10 k 2
  match lower? with
  | none =>
    return (s.setBand ci ki none,
      .ok .band [.num c, .num k, .absent, .absent, .absent])
  | some lower0 =>
    let upper0 ← orRefuse upper? .format 4
    let rate ← orRefuse rate? .format 5
    refuseIf (999999 < rate) .range 5
    let lower := clamp 1 weightMax lower0
    let upper := max lower (clamp 1 weightMax upper0)
    return (s.setBand ci ki (some ⟨lower, upper, rate⟩),
      settled .band (firstAdjusted [(3, lower ≠ lower0), (4, upper ≠ upper0)])
        [.num c, .num k, .num lower, .num upper, .num rate])

/-- The letter field of a SURCH (R37). -/
def readLetter : Text → Option Letter
  | [c] => letterOf c
  | _ => none

/-- SURCH;letter;[amount] (R37). -/
def surchRequest (fs : List Text) (s : State) : Answered := do
  refuseIf (fieldAt fs 1 = []) .format 1
  let l ← orRefuse (readLetter (fieldAt fs 1)) .range 1
  let amount? ← optionalNumber fs 2 6
  refuseIf (amount?.any (99999 < ·)) .range 2
  return (s.setNext { s.ret.next with
      surcharges := s.ret.next.surcharges.set (Letter.index l) amount? },
    .ok .surch [.text [Letter.char l], .optional amount?])

/-- TIER;slot;[min];[permille] (R38). A per mille missing beside a minimum fails its field check, which
comes before the slot's range (R153). -/
def tierRequest (fs : List Text) (s : State) : Answered := do
  let k ← number fs 1 1
  let min? ← optionalNumber fs 2 5
  let perMille? ← optionalNumber fs 3 4
  match min? with
  | none =>
    let ki ← named 4 k 1
    return (s.setNext { s.ret.next with tiers := s.ret.next.tiers.set ki none },
      .ok .tier [.num k, .absent, .absent])
  | some min0 =>
    let perMille0 ← orRefuse perMille? .format 3
    let ki ← named 4 k 1
    let minimum := clamp 2 Config.piecesMax min0
    let perMille := clamp 0 500 perMille0
    return (s.setNext { s.ret.next with tiers := s.ret.next.tiers.set ki (some ⟨minimum, perMille⟩) },
      settled .tier (firstAdjusted [(2, minimum ≠ min0), (3, perMille ≠ perMille0)])
        [.num k, .num minimum, .num perMille])

/-- EDITION;n (R39). -/
def editionRequest (fs : List Text) (s : State) : Answered := do
  let n ← number fs 1 5
  refuseIf (n < 1 ∨ 9999 < n) .range 1
  refuseIf (n = s.ret.current.edition) .same 1
  return (s.setNext { s.ret.next with edition := n }, .ok .edition [.num n])

/-- CLEARNEXT (R40). -/
def clearnextRequest (s : State) : Answered :=
  return (s.setNext RateTable.empty, .ok .clearnext [])

/-! ### Activation (R42, R43) -/

/-- Whether a table holds a band in any class (R42). -/
def RateTable.hasBand (t : RateTable) : Bool := t.bands.toList.any fun c => c.toList.any Option.isSome

/-- The number of Runs in progress: WAITING, ACTIVE or CANCELLING (R43). -/
def State.runsHeld (s : State) : Nat := (s.ret.runs.toList.filter Option.isSome).length

/-- NEXT is put in the place of CURRENT and becomes empty, and RATESWITCH is posted (R43). -/
def State.activated (s : State) : State :=
  ({ s with ret := { s.ret with current := s.ret.next, next := RateTable.empty } } : State).post
    (.rateswitch s.ret.next.edition s.ret.current.edition s.runsHeld)

/-- ACTIVATE;n (R42, R43). -/
def activateRequest (fs : List Text) (s : State) : Answered := do
  let n ← number fs 1 5
  refuseIf (n < 1 ∨ 9999 < n) .range 1
  refuseIf (s.ret.next.edition = 0) .noedition 0
  if n ≠ s.ret.next.edition then .error ⟨.mismatch, 1, some s.ret.next.edition⟩
  else
    refuseIf (s.ret.next.hasBand = false) .empty 0
    return (s.activated, .ok .activate [.num n, .num s.ret.current.edition])

/-! ### Quotes and reports (R52 to R54) -/

/-- The refusal of a QUOTE for a fault of the Charge Computation (R52). -/
def quoteFault : ChargeFault → RefusalWord × Nat
  | .noclass => (.noclass, 2)
  | .noband => (.noband, 3)
  | .nosurch => (.nosurch, 4)
  | .zero => (.zero, 0)
  | .overflow => (.overflow, 5)

/-- QUOTE;table;class;weight;[surcharges];pieces (R52, R53). The letters are judged at their place in field
order (R153), before the form of the pieces, and, as R52 lists them, after the range of the class (log
entry 7). -/
def quoteRequest (fs : List Text) (s : State) : Answered := do
  let name ← wordField readTable fs 1
  let c ← number fs 2 1
  let w ← number fs 3 5
  match readLetters (fieldAt fs 4) with
  | none =>
    refuseIf (c < 1 ∨ 8 < c) .range 2
    refuse .range 4
  | some letters =>
    let n ← number fs 5 5
    refuseIf (c < 1 ∨ 8 < c) .range 2
    refuseIf (n < 1 ∨ Config.piecesMax < n) .range 5
    match computeCharge (s.table name) c w (some letters) n with
    | .error e => refuse (quoteFault e).1 (quoteFault e).2
    | .ok r =>
      return (s, .ok .quote
        [.num r.bandSlot, .num r.tierSlot, .num r.discounted, .num r.charge, .num r.total])

/-- The three fields of a band slot in a report (R54). -/
def bandFigures : Option Band → List Figure
  | some b => [.num b.lower, .num b.upper, .num b.rate]
  | none => [.absent, .absent, .absent]

/-- The two fields of a tier slot in a report (R54). -/
def tierFigures : Option Tier → List Figure
  | some t => [.num t.minimum, .num t.perMille]
  | none => [.absent, .absent]

/-- The groups of a report of one part of a table (R54). -/
def RateTable.partFigures (t : RateTable) : TablePart → List Figure
  | .ofClass c =>
    if h : 1 ≤ c ∧ c ≤ 8 then ((t.bands.get ⟨c - 1, by omega⟩).toList.map bandFigures).flatten else []
  | .surcharges => t.surcharges.toList.map Figure.optional
  | .tiers => (t.tiers.toList.map tierFigures).flatten

/-- RATEREP;table;part (R54). -/
def raterepRequest (fs : List Text) (s : State) : Answered := do
  let name ← wordField readTable fs 1
  let part ← wordField readPart fs 2
  return (s, .ok .raterep
    (.num (s.table name).edition :: .text (fieldAt fs 2) :: (s.table name).partFigures part))

end Sys2Proof.Machine
end

