-- ==== Sys2Proof/Machine/Runs.lean ====
section
/-! DEFINITION. The Run Controller: admission, meter reports, cancellation, the Run timers and the
closures at a restart (chapter 4). A record taken from a meter gives the state it leaves and the one
record that answers it; the Meter Line Unit composes that answer (R140). -/

namespace Sys2Proof.Machine

/-- The verb RUN (section 11.4). -/
def runVerb : Text := word "RUN"

/-- The verb DONE. -/
def doneVerb : Text := word "DONE"

/-- The verb STOP. -/
def stopVerb : Text := word "STOP"

/-- The verb ANNOUNCE. -/
def announceVerb : Text := word "ANNOUNCE"

/-! ### Admission (R60 to R63) -/

/-- The next value of a Run Id counter (R56). -/
def nextRunId (n : Nat) : Nat := if Config.piecesMax ≤ n then 1 else n + 1

/-- The Basic Profile under an Offer (R113). -/
def basicProfile (o : Offer) : Profile where
  level := 1
  classes := [1].filter o.classes.contains
  surcharges := []
  maxRun := 1
  block := 1
  basic := true

/-- An UNANNOUNCED Port whose meter asks for a Run takes the Basic Profile, with UNANNOUNCED-USE
latched, or goes to REFUSED when the Offer lacks class 1; a Port in another state is left (R61,
check 3; R113). -/
def State.giveBasic (p : Port) (s : State) : State :=
  if (s.record p).state = .unannounced then
    if (basicProfile s.ret.offer).classes = [] then
      s.setRecord p { s.record p with state := .refused, profile := none }
    else
      (s.setRecord p
        { s.record p with state := .ready, profile := some (basicProfile s.ret.offer) }).latch p
          .unannouncedUse
  else s

/-- The surcharge set of a RUN's field: absent when a character is no letter of the Profile (R62,
order 8). A repeated letter counts once. -/
def profileLetters (profile : Profile) (t : Text) : Option (List Letter) :=
  match readLetters t with
  | some ls => if ls.all profile.surcharges.contains then some ls else none
  | none => none

/-- The refusal of a RUN for a fault of the Charge Computation (R62). -/
def runFault : ChargeFault → RefusalWord × Nat
  | .noclass => (.noclass, 1)
  | .noband => (.noband, 2)
  | .nosurch => (.nosurch, 3)
  | .zero => (.zero, 0)
  | .overflow => (.overflow, 4)

/-- The checks of a RUN against the Profile, the Charge Computation on CURRENT and the Port's limits,
orders 5 to 12 (R62). -/
def priceRun (s : State) (p : Port) (profile : Profile) (c w : Nat) (letters : Text) (n : Nat) :
    Checked ChargeResult := do
  refuseIf (n < 1 ∨ profile.maxRun < n) .size 4
  refuseIf (profile.classes.contains c = false) .noclass 1
  match computeCharge s.ret.current c w (profileLetters profile letters) n with
  | .error e => refuse (runFault e).1 (runFault e).2
  | .ok r =>
    refuseIf ((s.fundsOf p).runLimit < r.total) .overlimit 0
    refuseIf (Config.lifetimeMax < (s.fundsOf p).usedValue + r.total) .full 0
    return r

/-- The Run Record created at admission, before its state is decided (R63). -/
def newRun (id : Nat) (profile : Profile) (r : ChargeResult) (n : Nat) : Run where
  id := id
  state := .waiting
  pieces := n
  level := profile.level
  block := profile.block
  edition := r.edition
  charge := r.charge
  total := r.total
  granted := 0
  printed := 0
  spoiled := 0
  waitDeadline := none
  silenceDeadline := none
  cancelRequested := false

/-- Whether the Funds Unit can reserve a new Run at once (R22). -/
def State.canReserve (s : State) (p : Port) (total : Nat) : Bool :=
  total ≤ (s.fundsOf p).available ||
    (s.ret.queue.isEmpty && total - (s.fundsOf p).available ≤ s.ret.pool)

/-- Stores a Port's Run Id counter. -/
def State.setRunId (p : Port) (n : Nat) (s : State) : State :=
  { s with ret := { s.ret with runIds := s.ret.runIds.set p n } }

/-- The admission of a Run that is reserved (R63, first case): the reservation and its low-mark check,
the Run ACTIVE with its silence timer started, and the RUNOK with its first block as the answer. -/
def State.admitActive (p : Port) (r : Run) (s : State) : State × MeterFrame :=
  ((((s.setRunId p r.id).setRun p
      (some { r with
        state := .active, silenceDeadline := some (s.fundsOf p).silenceLimit })).reserve p
          r.total).lowMarkCheck p,
    .runok r.id r.edition r.charge (min r.block r.pieces))

/-- The admission of a Run that must wait (R63, second case): it joins the tail of the queue, its wait
timer starts, RUNWAIT is posted, and WAIT answers. -/
def State.admitWaiting (p : Port) (r : Run) (s : State) : State × MeterFrame :=
  ((((s.setRunId p r.id).setRun p
      (some { r with waitDeadline := some (s.fundsOf p).waitLimit })).setQueue
        (s.ret.queue ++ [p])).post
      (.runwait p r.id r.total (r.total - (s.fundsOf p).available) s.ret.pool
        (s.ret.queue.length + 1)),
    .wait r.id)

/-- A RUN with its Profile known: BUSY, the checks of R62, and the admission (R61 check 4, R63). -/
def State.admitRun (p : Port) (profile : Profile) (c w : Nat) (letters : Text) (n : Nat) (s : State) :
    State × MeterFrame :=
  if (s.runOf p).isSome then (s, .badreq runVerb .busy 0)
  else
    match priceRun s p profile c w letters n with
    | .error e => (s, .badreq runVerb e.word e.pos)
    | .ok r =>
      let new := newRun (nextRunId (s.ret.runIds.get p)) profile r n
      if s.canReserve p r.total then s.admitActive p new else s.admitWaiting p new

/-- The field checks of a RUN (R60): class, weight and pieces. -/
def runFields (fs : List Text) : Checked (Nat × Nat × Nat) := do
  refuseIf (fs.length ≠ 4) .fields 0
  let c ← number fs 1 1
  let w ← number fs 2 5
  let n ← number fs 4 5
  return (c, w, n)

/-- A RUN taken on a Port that is UNANNOUNCED or READY (R60 to R63). -/
def takeRun (p : Port) (fs : List Text) (s : State) : State × MeterFrame :=
  match runFields fs with
  | .error e => (s, .badreq runVerb e.word e.pos)
  | .ok (c, w, n) =>
    if s.lockMark then (s, .badreq runVerb .locked 0)
    else if s.suspendedOf p then (s, .badreq runVerb .suspended 0)
    else
      let t := s.giveBasic p
      match (t.record p).profile with
      | none => (t, .badreq runVerb .noclass 1)
      | some profile => t.admitRun p profile c w (fieldAt fs 3) n

/-! ### Reports (R69 to R72, R76) -/

/-- The field checks of a DONE or STOP (R60): id, printed and spoiled, which is 0 when its field is
empty or missing. -/
def reportFields (fs : List Text) : Checked (Nat × Nat × Nat) := do
  refuseIf (fs.length ≠ 2 ∧ fs.length ≠ 3) .fields 0
  let id ← number fs 1 4
  let printed ← number fs 2 4
  let spoiled ← optionalNumber fs 3 4
  return (id, printed, spoiled.getD 0)

/-- A Run with the counts of a report taken: printed clamped to Outstanding, spoiled to printed
(R70). -/
def Run.counted (r : Run) (printed spoiled : Nat) : Run :=
  { r with
    printed := r.printed + min printed r.outstanding
    spoiled := r.spoiled + min spoiled (min printed r.outstanding) }

/-- Whether a clamp lowers a figure of a report (R70). -/
def Run.mismatched (r : Run) (printed spoiled : Nat) : Bool :=
  r.outstanding < printed || min printed r.outstanding < spoiled

/-- The counts of an accepted report are taken: the Run's Printed and Spoiled, the Port's Spoil
Pieces and Spoil Value, and COUNT-MISMATCH (R70). -/
def State.countReport (p : Port) (r : Run) (printed spoiled : Nat) (s : State) : State :=
  ((s.setRun p (some (r.counted printed spoiled))).setFunds p
    { s.fundsOf p with
      spoilPieces := (s.fundsOf p).spoilPieces + min spoiled (min printed r.outstanding)
      spoilValue :=
        (s.fundsOf p).spoilValue + min spoiled (min printed r.outstanding) * r.charge }).latchIf
    (r.mismatched printed spoiled) p .countMismatch

/-- The answer of an accepted DONE on a Run whose counts `r` already holds (R69, the table; R76). -/
def State.answerDone (p : Port) (r : Run) (s : State) : State × MeterFrame :=
  if r.state = .active then
    if 0 < r.outstanding then (s, .ack r.id r.outstanding)
    else if r.granted < r.pieces then (s, .grant r.id (min r.block (r.pieces - r.granted)))
    else (s.closeSilently p r .complete, runendFrame r .complete)
  else if r.level = 1 then
    (s.closeSilently p r.allPrinted .cancelled, runendFrame r.allPrinted .cancelled)
  else if 0 < r.outstanding then (s, .ack r.id r.outstanding)
  else (s.closeSilently p r .cancelled, runendFrame r .cancelled)

/-- A DONE taken from the Input Queue (R60, R69, R70). -/
def takeDone (p : Port) (fs : List Text) (s : State) : State × MeterFrame :=
  match reportFields fs with
  | .error e => (s, .badreq doneVerb e.word e.pos)
  | .ok (id, printed, spoiled) =>
    match s.runOf p with
    | none => (s, .norun id)
    | some r =>
      if r.id ≠ id ∨ r.state = .waiting then (s, .norun id)
      else
        let t := (s.countReport p r printed spoiled).restartSilence p
        let counted := { r.counted printed spoiled with
          silenceDeadline := some (s.fundsOf p).silenceLimit }
        t.answerDone p counted

/-- The unprinted pieces of a stopped Run return: their value leaves Used Value for Available and they
leave Used Pieces (R71, step 2). -/
def State.returnUnprinted (p : Port) (r : Run) (s : State) : State :=
  s.setFunds p
    { s.fundsOf p with
      usedValue := (s.fundsOf p).usedValue - r.outstanding * r.charge
      usedPieces := (s.fundsOf p).usedPieces - r.outstanding
      available := (s.fundsOf p).available + r.outstanding * r.charge }

/-- A STOP taken from the Input Queue (R60, R71, R72). -/
def takeStop (p : Port) (fs : List Text) (s : State) : State × MeterFrame :=
  match reportFields fs with
  | .error e => (s, .badreq stopVerb e.word e.pos)
  | .ok (id, printed, spoiled) =>
    match s.runOf p with
    | none => (s, .norun id)
    | some r =>
      if r.id ≠ id then (s, .norun id)
      else if r.state = .waiting then
        (((s.latchIf (0 < printed || 0 < spoiled) p .countMismatch).closeSilently p r .stopped).pass,
          runendFrame r .stopped)
      else
        let counted := r.counted printed spoiled
        let final := { counted with granted := counted.printed }
        let reason : RunReason := if r.cancelRequested then .cancelled else .stopped
        ((((s.countReport p r printed spoiled).returnUnprinted p counted).closeSilently p final
          reason), runendFrame final reason)

/-! ### Cancellation by the host (R73 to R76) -/

/-- Whether a record is a RUNOK. -/
def MeterFrame.isRunok : MeterFrame → Bool
  | .runok _ _ _ _ => true
  | _ => false

/-- Whether the RUNOK of a Port's Run is still its Owed Frame (R74). -/
def State.owesRunok (s : State) (p : Port) : Bool := (s.mlu p).owed.any MeterFrame.isRunok

/-- A Run taken to CANCELLING, with cancel-requested set (R75, R76). -/
def Run.toCancelling (r : Run) : Run := { r with state := .cancelling, cancelRequested := true }

/-- CANCEL;port (R73 to R76). -/
def cancelRequest (fs : List Text) (s : State) : Answered := do
  let port ← number fs 1 1
  let p ← named 6 port 1
  let r ← orRefuse (s.runOf p) .norun 1
  refuseIf (r.state = .cancelling) .state 1
  if r.state = .waiting then
    return ((s.closeUnasked p r .cancelled).pass, .ok .cancel [.num r.id, .text (word "CLOSED")])
  else if s.owesRunok p then
    return (s.closeUnasked p r .cancelled, .ok .cancel [.num r.id, .text (word "CLOSED")])
  else if r.level = 1 then
    return (s.setRun p (some r.toCancelling), .ok .cancel [.num r.id, .text (word "CANCELLING")])
  else
    return ((s.setRun p (some r.toCancelling)).sendUnasked p (.halt r.id),
      .ok .cancel [.num r.id, .text (word "CANCELLING")])

/-! ### The Run timers (R78, R79) -/

/-- The silence timer of a Port's ACTIVE or CANCELLING Run expires (R78). -/
def State.silenceExpired (p : Port) (s : State) : State :=
  match s.runOf p with
  | some r =>
    if r.state = .waiting then s else (s.latch p .silentClose).closeUnasked p r.allPrinted .silent
  | none => s

/-- The wait timer of a Port's WAITING Run expires (R79): the closure NOFUNDS, with its NOFUNDS Notice
before its RUNEND Notice, and then the pass. -/
def State.waitExpired (p : Port) (s : State) : State :=
  match s.runOf p with
  | some r =>
    if r.state = .waiting then
      ((s.post (.nofunds p r.id r.total (r.total - (s.fundsOf p).available) s.ret.pool)).closeUnasked
        p r .nofunds).pass
    else s
  | none => s

/-! ### Closures by line events and at a restart (R82, R83) -/

/-- Closes the Run of a Port at line down or meter reset: its Outstanding is counted as printed, no
record is sent, and the pass runs when the Run was WAITING (R82). -/
def State.closeAtLine (p : Port) (reason : RunReason) (s : State) : State :=
  match s.runOf p with
  | some r =>
    if r.state = .waiting then (s.closeSilently p r reason).pass
    else s.closeSilently p r.allPrinted reason
  | none => s

/-- The Run Id of a Port's Run, 0 when it has none (R117, R118). -/
def State.runIdOr0 (s : State) (p : Port) : Nat :=
  match s.runOf p with
  | some r => r.id
  | none => 0

/-- A Run as its closure at a restart leaves its counts: Outstanding is counted as printed (R83). -/
def Run.atRestart (r : Run) : Run := if r.state = .waiting then r else r.allPrinted

/-- The RUNEND Notices of the closures at a restart, in Port order (R83). -/
def restartNotices (ret : Retained) : List Notice :=
  allPorts.filterMap fun p => (ret.runs.get p).map fun r => runendNotice p r.atRestart .restart

/-- A Port Funds Record with its Reserved returned (R18, R83). -/
def PortFunds.released (f : PortFunds) : PortFunds :=
  { f with available := f.available + f.reserved, reserved := 0 }

/-- The retained contents after the closures of a restart: every Run Record slot and the queue empty,
and each closed Run's Reserved returned (R83, R170 step 1). -/
def Retained.restarted (ret : Retained) : Retained :=
  { ret with
    runs := Vector.replicate 6 none
    queue := []
    funds := allPorts.foldl
      (fun v p => if (ret.runs.get p).isSome then v.set p (ret.funds.get p).released else v) ret.funds }

end Sys2Proof.Machine
end

