-- ==== Sys2Proof/Machine/Ports.lean ====
section
/-! DEFINITION. The Port Manager: the Offer, announcement, suspension, the events of a line at its Port,
the port report (chapter 6), and the requests METERRESET, LOOP and LINETEST it shares with the Meter
Line Unit (sections 7.5 and 7.6). -/

namespace Sys2Proof.Machine

/-! ### The Offer (R106) -/

/-- Stores the Offer. -/
def State.setOffer (o : Offer) (s : State) : State := { s with ret := { s.ret with offer := o } }

/-- OFFER;[classes];[surcharges];[maxrun];[block] (R106). -/
def offerRequest (fs : List Text) (s : State) : Answered := do
  let classes ← orRefuse (readClasses (fieldAt fs 1)) .range 1
  let letters ← orRefuse (readLetters (fieldAt fs 2)) .range 2
  let max? ← optionalNumber fs 3 5
  let block? ← optionalNumber fs 4 3
  let maxRun := (max?.map (clamp 1 Config.piecesMax)).getD s.ret.offer.maxRun
  let block := (block?.map (clamp 1 Config.blockMax)).getD s.ret.offer.block
  return (s.setOffer ⟨classes, letters, maxRun, block⟩,
    settled .offer (firstAdjusted [(3, max?.any (· ≠ maxRun)), (4, block?.any (· ≠ block))])
      [.text (writeClasses classes), .text (writeLetters letters), .num maxRun, .num block])

/-! ### Announcement (R108 to R112) -/

/-- The fields of an ANNOUNCE after the adjustments of R108. -/
structure Announcement where
  level : Nat
  serial : Text
  classes : List Nat
  surcharges : List Letter
  maxRun : Nat
  block : Nat
  deriving DecidableEq, Repr

/-- Whether a text is a serial: exactly 8 digits (R108). -/
def isSerial (t : Text) : Bool := t.length = 8 && t.all fun c => (digitValue c).isSome

/-- The field checks of an ANNOUNCE, in field order (R108). -/
def announceFields (fs : List Text) : Checked Announcement := do
  refuseIf (fs.length ≠ 6) .fields 0
  let level ← number fs 1 1
  refuseIf (level = 0) .range 1
  refuseIf (isSerial (fieldAt fs 2) = false) .format 2
  let classes ← orRefuse (readClasses (fieldAt fs 3)) .range 3
  let letters ← orRefuse (readLetters (fieldAt fs 4)) .range 4
  let maxRun ← number fs 5 4
  let block ← number fs 6 2
  return ⟨level, fieldAt fs 2, classes, letters, max 1 maxRun, max 1 block⟩

/-- The Profile resolved from an announcement and the Offer (R111). -/
def resolveProfile (a : Announcement) (o : Offer) : Profile where
  level := min a.level 2
  classes := a.classes.filter o.classes.contains
  surcharges := a.surcharges.filter o.surcharges.contains
  maxRun := min a.maxRun o.maxRun
  block := min a.block o.block
  basic := false

/-- Whether an announcement's serial differs from the Port's and finds funds there (R110). -/
def State.serialChanges (s : State) (p : Port) (serial : Text) : Bool :=
  s.serialOf p ≠ some serial && 0 < (s.fundsOf p).available + (s.fundsOf p).reserved

/-- Steps 1 and 2 of an announcement: METER-CHANGED with its Notice where R110 calls for it, and the
serial recorded (R109, R110). -/
def State.recordSerial (p : Port) (serial : Text) (s : State) : State :=
  let t :=
    if s.serialChanges p serial then
      (s.latch p .meterChanged).post
        (.meterchanged p (s.serialOf p) serial (s.fundsOf p).available (s.fundsOf p).reserved)
    else s
  { t with ret := { t.ret with serials := t.ret.serials.set p (some serial) } }

/-- An announcement that passes its checks (R109): the serial, the Profile, the Port's state, the
ATTACH Notice and the answer. -/
def State.attach (p : Port) (a : Announcement) (s : State) : State × MeterFrame :=
  let profile := resolveProfile a s.ret.offer
  let t := s.recordSerial p a.serial
  if profile.classes = [] then
    ((t.setRecord p { t.record p with state := .refused, profile := none }).post
      (.attach p (s.record p).state a.serial none), .refuse)
  else
    ((t.setRecord p { t.record p with state := .ready, profile := some profile }).post
      (.attach p (s.record p).state a.serial (some profile)), .accept profile)

/-- An ANNOUNCE taken from the Input Queue (R108, R109). -/
def takeAnnounce (p : Port) (fs : List Text) (s : State) : State × MeterFrame :=
  match announceFields fs with
  | .error e => (s, .badreq announceVerb e.word e.pos)
  | .ok a =>
    if s.lockMark then (s, .badreq announceVerb .locked 0)
    else if s.suspendedOf p then (s, .badreq announceVerb .suspended 0)
    else if (s.runOf p).isSome then (s, .badreq announceVerb .busy 0)
    else s.attach p a

/-- The routing of a frame taken from a Port's Input Queue, by its verb and the Port's state (R105). -/
def route (p : Port) (f : Frame) (s : State) : State × MeterFrame :=
  if f.verb = announceVerb then takeAnnounce p f.fields s
  else if f.verb = runVerb then
    if (s.record p).state = .refused then (s, .badreq runVerb .notready 0) else takeRun p f.fields s
  else if f.verb = doneVerb then
    if (s.record p).state = .refused then (s, .badreq doneVerb .notready 0) else takeDone p f.fields s
  else if f.verb = stopVerb then
    if (s.record p).state = .refused then (s, .badreq stopVerb .notready 0) else takeStop p f.fields s
  else (s, .badreq (f.verb.take Config.echoMax) .unknown 0)

/-! ### Suspension (R114, R115) -/

/-- Stores a suspended flag. -/
def State.setSuspended (p : Port) (b : Bool) (s : State) : State :=
  { s with ret := { s.ret with suspended := s.ret.suspended.set p b } }

/-- The Run of a Port when it is WAITING. -/
def State.waitingRun (s : State) (p : Port) : Option Run :=
  (s.runOf p).filter fun r => r.state = .waiting

/-- SUSPEND;port (R114). -/
def suspendRequest (fs : List Text) (s : State) : Answered := do
  let port ← number fs 1 1
  let p ← named 6 port 1
  refuseIf ((s.record p).state = .loopback) .state 1
  let t := s.setSuspended p true
  match s.waitingRun p with
  | some r =>
    return ((t.closeUnasked p r .suspended).pass, .ok .suspend [.num port, .num r.id])
  | none => return (t, .ok .suspend [.num port, .absent])

/-- RESUME;port (R115). -/
def resumeRequest (fs : List Text) (s : State) : Answered := do
  let port ← number fs 1 1
  let p ← named 6 port 1
  refuseIf ((s.record p).state = .loopback) .state 1
  return (s.setSuspended p false, .ok .resume [.num port])

/-! ### The port report (R123, R124) -/

/-- A termination reason or NONE (R123). -/
def faultOrNone : Option FaultReason → Text
  | some r => faultText r
  | none => word "NONE"

/-- The two figures of a Last Loop Result (R123, positions 15 and 16). -/
def loopFigures : Option LoopResult → List Figure
  | none => [.text (word "NONE"), .absent]
  | some ⟨none, t⟩ => [.text (word "COMPLETE"), .text t]
  | some ⟨some r, t⟩ => [.text (faultText r), .text t]

/-- The five figures of a Port's Run (R123, positions 17 to 21). -/
def runFigures : Option Run → List Figure
  | some r => [.num r.id, .text r.state.text, .num r.pieces, .num r.granted, .num r.printed]
  | none => [.absent, .absent, .absent, .absent, .absent]

/-- The twenty-one figures of a PORTREP report (R123). -/
def State.portFigures (s : State) (p : Port) : List Figure :=
  [.num (portNumber p), .text (s.record p).state.text, .flag (s.suspendedOf p), .flag (s.mlu p).lineUp,
    .flag (s.record p).lineGood]
  ++ Figure.profile (s.record p).profile
  ++ [match (s.record p).profile with | some q => .flag q.basic | none => .absent,
    .serial (s.serialOf p), .text (s.record p).latched.letters,
    .text (faultOrNone (s.record p).lastError)]
  ++ loopFigures (s.record p).loopResult
  ++ runFigures (s.runOf p)

/-- PORTREP;port (R123, R124). -/
def portrepRequest (fs : List Text) (s : State) : Answered := do
  let port ← number fs 1 1
  let p ← named 6 port 1
  return (s.setRecord p ((s.record p).afterRead (s.mlu p).lineUp), .ok .portrep (s.portFigures p))

/-! ### Line events at the Port (R117 to R120, R133, R134) -/

/-- A Port leaves its state for another that holds no Profile (R104). -/
def State.leaveReady (p : Port) (st : PortState) (s : State) : State :=
  s.setRecord p { s.record p with state := st, profile := none }

/-- A break is detected on a meter line (R133): a frame being collected ends BREAK, the receiver is in
IDLE-WAIT, both hold flags clear, and a transmitter the meter held begins its oldest frame (R139). A HOLD
that still waits goes on waiting: the manual drops it at the meter reset or line down (R134), and says
nothing of it here (DESIGN CHOICE, log entry 37). -/
def State.detectBreak (p : Port) (s : State) : State :=
  let m := s.mlu p
  let t :=
    match (m.rx.fault .lineBreak).2 with
    | some _ => s.latchLineError p .lineBreak
    | none => s
  t.setMlu p (Mlu.beginNext { m with rx := .idleWait, heldByUs := false, heldByMeter := false })

/-- The level of a meter line's receive pin, as the line events show it. -/
def State.setMarking (p : Port) (b : Bool) (s : State) : State :=
  { s with pins := { s.pins with marking := s.pins.marking.set p b } }

/-- A meter reset on a Port (R134, R118), the break of the receiver being taken first. -/
def State.takeMeterReset (p : Port) (cause : ResetCause) (s : State) : State :=
  let left := (s.record p).state
  let id := s.runIdOr0 p
  let b := s.detectBreak p
  let t := (((b.setMlu p (b.mlu p).discard).leaveReady p .unannounced).closeAtLine p .meterreset).latch
    p .meterReset
  t.post (.meterreset p cause left id (t.fundsOf p).available)

/-- Line down on an attached Port (R134, R117), the break of the receiver being taken first. -/
def State.takeLineDown (p : Port) (s : State) : State :=
  let left := (s.record p).state
  let id := s.runIdOr0 p
  let b := s.detectBreak p
  let c := b.setMlu p { (b.mlu p).discard with lineUp := false, drivingBreak := false }
  let d := c.setRecord p { c.record p with lineGood := false, state := .absent, profile := none }
  let t := d.closeAtLine p .linedown
  t.post (.detach p left (t.serialOf p) id (t.fundsOf p).available (t.fundsOf p).reserved)

/-- Line down on a Port in LOOPBACK: the line-up flag clears and LINE-GOOD goes low (R120). -/
def State.loopLineDown (p : Port) (s : State) : State :=
  (s.setMlu p { s.mlu p with lineUp := false }).setRecord p { s.record p with lineGood := false }

/-- A meter line takes line down: with the line-up flag clear there is none (R133). -/
def State.lineDownEvent (p : Port) (s : State) : State :=
  if (s.mlu p).lineUp = false then s
  else if (s.record p).state = .loopback then (s.loopLineDown p).setMarking p false
  else if (s.record p).state.attached then (s.takeLineDown p).setMarking p false
  else s

/-- A meter line takes line up: with the line-up flag set there is none (R133, R119, R120). -/
def State.lineUpEvent (p : Port) (s : State) : State :=
  if (s.mlu p).lineUp then s
  else if (s.record p).state = .loopback then
    (s.setMlu p { s.mlu p with lineUp := true }).setMarking p true
  else if (s.record p).state = .absent then
    ((s.setMlu p { s.mlu p with lineUp := true, rx := .ready }).setRecord p
      { s.record p with state := .unannounced }).setMarking p true
  else s

/-! ### METERRESET, LOOP and LINETEST (R143 to R146) -/

/-- METERRESET;port (R143). A second METERRESET while the break of the first is still driven starts no
second one: the line stays at space until the one METERRESET_BREAK_END, of which the manual says nothing
(DESIGN CHOICE, log entry 36). -/
def meterresetRequest (fs : List Text) (s : State) : Answered := do
  let port ← number fs 1 1
  let p ← named 6 port 1
  refuseIf ((s.record p).state = .loopback) .state 1
  if (s.record p).state.attached then
    let t := s.takeMeterReset p .command
    return (t.setMlu p { t.mlu p with drivingBreak := true }, .ok .meterreset [.num port])
  else return (s, .ok .meterreset [.num port])

/-- A Meter Line Unit as LOOP ON and LOOP OFF leave it: empty, with the receiver in IDLE-WAIT, no test
in flight and nothing to come round (R144, R145). -/
def Mlu.switched (m : Mlu) : Mlu :=
  { m.discard with rx := .idleWait, drivingBreak := false, testInFlight := false, sentEcho := none }

/-- LOOP ON on a Port that admits it (R144). -/
def State.loopedOn (p : Port) (s : State) : State :=
  (s.setMlu p (s.mlu p).switched).setRecord p
    { s.record p with state := .loopback, profile := none, loopResult := none }

/-- The state a Port leaves LOOPBACK for (R104, R145). -/
def State.afterLoop (s : State) (p : Port) : PortState :=
  if (s.mlu p).lineUp then .unannounced else .absent

/-- LOOP OFF on a Port in LOOPBACK (R145). -/
def State.loopedOff (p : Port) (s : State) : State :=
  (s.setMlu p (s.mlu p).switched).setRecord p { s.record p with state := s.afterLoop p }

/-- LOOP;port;mode (R144, R145). -/
def loopRequest (fs : List Text) (s : State) : Answered := do
  let port ← number fs 1 1
  let on ← wordField readMode fs 2
  let p ← named 6 port 1
  if on then
    refuseIf ((s.record p).state = .loopback ∨ s.suspendedOf p = false) .state 1
    refuseIf ((s.runOf p).isSome) .busy 0
    return (s.loopedOn p, .ok .loop [.num port, .text (PortState.text .loopback)])
  else
    refuseIf ((s.record p).state ≠ .loopback) .state 1
    return (s.loopedOff p, .ok .loop [.num port, .text (s.afterLoop p).text])

/-- A line test starts (R146): the Last Loop Result is NONE, a test is in flight, and the ECHO frame is
composed into a slot. -/
def State.startTest (p : Port) (text : Text) (s : State) : State :=
  ((s.setRecord p { s.record p with loopResult := none }).setMlu p
    { s.mlu p with testInFlight := true }).putFrame p (.echo text)

/-- LINETEST;port;text (R146). -/
def linetestRequest (fs : List Text) (s : State) : Answered := do
  let port ← number fs 1 1
  refuseIf (fieldAt fs 2 = []) .format 2
  let p ← named 6 port 1
  refuseIf (Config.testTextMax < (fieldAt fs 2).length) .range 2
  refuseIf ((s.record p).state ≠ .loopback) .state 1
  refuseIf ((s.mlu p).rx ≠ .ready ∨ (s.mlu p).testInFlight = true) .busy 0
  return (s.startTest p (fieldAt fs 2), .ok .linetest [.num port])

/-- A line test in flight ends with a result; with no test in flight nothing is stored (R132, R146). -/
def State.endTest (p : Port) (result : LoopResult) (s : State) : State :=
  if (s.mlu p).testInFlight then
    (s.setMlu p { s.mlu p with testInFlight := false }).setRecord p
      { s.record p with loopResult := some result }
  else s

end Sys2Proof.Machine
end

