-- ==== Sys2Proof/Machine/Lines.lean ====
section
/-! DEFINITION. The Meter Line Unit: the Input Queue, flow control, the use of a free slot, and what
each event at a meter line does (sections 7.1 to 7.6). -/

namespace Sys2Proof.Machine

/-! ### Flow control (R138, R139) -/

/-- A HOLD falls due: held-by-us is set, and the character waits for the one on the line, if any. -/
def Mlu.holdDue (m : Mlu) : Mlu :=
  { m with heldByUs := true, flowOut := some .hold, flowWaiting := m.sending || m.drivingBreak }

/-- A GO falls due: held-by-us clears; a HOLD that still waits goes with it, and neither is sent. -/
def Mlu.goDue (m : Mlu) : Mlu :=
  if m.flowOut = some .hold && m.flowWaiting then
    { m with heldByUs := false, flowOut := none, flowWaiting := false }
  else { m with heldByUs := false, flowOut := some .go, flowWaiting := m.sending || m.drivingBreak }

/-- A frame joins the tail of the Input Queue; the third one, with held-by-us clear, calls for HOLD
(R137, R138). -/
def Mlu.join (f : Frame) (m : Mlu) : Mlu :=
  if (m.inputs ++ [f]).length = 3 && !m.heldByUs then { m with inputs := m.inputs ++ [f] }.holdDue
  else { m with inputs := m.inputs ++ [f] }

/-- The frame at the head of the Input Queue is taken; the fall from 2 to 1, with held-by-us set, calls
for GO (R138). -/
def Mlu.takeOff (m : Mlu) : Mlu :=
  if m.inputs.length = 2 && m.heldByUs then { m with inputs := m.inputs.drop 1 }.goDue
  else { m with inputs := m.inputs.drop 1 }

/-! ### The use of a free slot (R141) -/

/-- Step 1: a pending Owed Frame is composed into a free slot (R141). -/
def State.composeOwed (p : Port) (s : State) : State :=
  match (s.mlu p).owed with
  | some f =>
    if (s.mlu p).slots.hasFree then (s.setMlu p { s.mlu p with owed := none }).compose p f else s
  | none => s

/-- Step 2: the head of the Input Queue is taken, acted on by its block, and answered in the free slot
(R141, R105). -/
def State.takeHead (p : Port) (s : State) : State :=
  match (s.mlu p).inputs with
  | f :: _ =>
    if (s.mlu p).owed.isNone && (s.mlu p).slots.hasFree && (s.record p).state.attached then
      let t := route p f (s.setMlu p (s.mlu p).takeOff)
      t.1.compose p t.2
    else s
  | [] => s

/-- The use of a free slot: the Owed Frame, then the head of the queue, and the latter once more
(R141). -/
def State.useSlot (p : Port) (s : State) : State :=
  ((s.composeOwed p).takeHead p).takeHead p

/-! ### Frames of a meter (R132, R137) -/

/-- A complete frame of a meter reaches the Meter Line Unit: it joins the Input Queue, and is taken at
once when a slot is free; at a full queue it is discarded and OVERRUN latched (R137, R141). A Port
that is ABSENT or in LOOPBACK receives no frame from a meter (R104). -/
def State.frameArrives (p : Port) (f : Frame) (s : State) : State :=
  if (s.record p).state.attached then
    if (s.mlu p).inputs.length < Config.inputMax then
      let t := s.setMlu p ((s.mlu p).join f)
      if (t.mlu p).slots.hasFree then t.useSlot p else t
    else s.latch p .overrun
  else s

/-- A receiver of a meter line ends a frame (R132): on a looped Port the line test ends; otherwise a
complete frame joins the Input Queue, and a faulty one latches LINE-ERROR with its reason. -/
def State.frameEnds (p : Port) (t : Termination) (s : State) : State :=
  if (s.record p).state = .loopback then
    match t with
    | .complete f => s.endTest p ⟨none, f.fields.headD []⟩
    | .fault r => s.endTest p ⟨some r, []⟩
  else
    match t with
    | .complete f => s.frameArrives p f
    | .fault r => s.latchLineError p r

/-- Whether the receiver of a meter line takes events: the line is up, or the Port is looped (R133,
R144). -/
def State.hears (s : State) (p : Port) : Bool :=
  (s.record p).state.attached || (s.record p).state = .loopback

/-- A receiver of a meter line takes a step, and the termination, if there is one, its effect. -/
def State.meterReceives (p : Port) (step : Receiver → Receiver × Option Termination) (s : State) :
    State :=
  if s.hears p then
    let r := step (s.mlu p).rx
    let t := s.setMlu p { s.mlu p with rx := r.1 }
    match r.2 with
    | some e => t.frameEnds p e
    | none => t
  else s

/-! ### The transmitter of a meter line (R139, R140, R143) -/

/-- A character received on a meter line comes at least one character time after the frame whose end made
a HOLD due, so the character that the transmitter then had on the line has gone, and the HOLD has gone out
after it, between two characters of the frame being sent (R138). While a break is driven it waits on (log
entry 13). -/
def Mlu.charPassed (m : Mlu) : Mlu := { m with flowWaiting := m.flowWaiting && m.drivingBreak }

/-- The frame whose characters come round the loop: the one composed last, and, once its slot has freed, the
one that freed it. A slot freeing and the end of a frame at the receiver may be taken in either order
(R142), so its last characters may come after it has left its slot. -/
def Mlu.onLoop (m : Mlu) : Option MeterFrame := m.slots.frames.getLast?.or m.sentEcho

/-- Whether a character comes round the loop (R144). A character received cleanly is the one of the frame on
the loop that follows those collected; the open marker begins the frame of a test in flight. An error may
change any character (log entry 39). In IDLE-WAIT every character is passed over (R126). -/
def Mlu.comesRound (m : Mlu) (c : Chr) (e : CharError) : Bool :=
  match m.onLoop with
  | none => false
  | some f =>
    match m.rx with
    | .idleWait => true
    | .ready => m.testInFlight && (e ≠ .clean || f.onLine[0]? = some c)
    | .collect body atSpace => e ≠ .clean || atSpace || f.onLine[body.length + 1]? = some c

/-- A character received on a meter line that is no clean flow character (R126 to R129). The input of a
looped receiver is switched to the Port's own transmitter: no character of the external line reaches it
(R144). -/
def State.meterHears (p : Port) (c : Chr) (e : CharError) (s : State) : State :=
  if (s.record p).state.attached then
    (s.setMlu p (s.mlu p).charPassed).meterReceives p (Receiver.receive Config.meterLine.maxFrame c e)
  else if (s.record p).state = .loopback && (s.mlu p).comesRound c e then
    s.meterReceives p (Receiver.receive Config.meterLine.maxFrame c e)
  else s

/-- A HOLD of the meter sets held-by-meter; a GO clears it, and the oldest composed frame begins (R139). -/
def Mlu.obeys (f : Flow) (m : Mlu) : Mlu :=
  match f with
  | .hold => { m with heldByMeter := true }
  | .go => Mlu.beginNext { m with heldByMeter := false }

/-- A flow character received cleanly on a meter line (R131, R139). None comes round the loop of a Port in
LOOPBACK, whose transmitter sends none (R144). -/
def State.meterFlow (p : Port) (f : Flow) (s : State) : State :=
  if (s.record p).state = .loopback then s
  else
    let t := s.meterReceives p Receiver.flow
    t.setMlu p ((t.mlu p).charPassed.obeys f)

/-- The last character of the frame being sent on a meter line has gone: its slot frees, a waiting flow
character has gone with it, the transmitter begins the other slot's frame, and the free slot is used
(R140, R141). A looped Port's frame is kept as `sentEcho` for the characters that still come round. With no
frame being sent there is no such event. -/
def State.meterSlotFrees (p : Port) (s : State) : State :=
  if (s.mlu p).sending && (s.mlu p).slots.first.isSome then
    let t := s.setMlu p (Mlu.beginNext
      { s.mlu p with slots := (s.mlu p).slots.release, sending := false, flowWaiting := false })
    if (s.record p).state.attached then t.useSlot p
    else t.setMlu p { t.mlu p with sentEcho := (s.mlu p).slots.first }
  else s

/-- The break of a METERRESET ends: the line marks again, and the frame waiting in its slot begins
(R143). -/
def State.breakEnds (p : Port) (s : State) : State :=
  if (s.mlu p).drivingBreak then
    s.setMlu p (Mlu.beginNext { s.mlu p with drivingBreak := false, flowWaiting := false })
  else s

/-- The idle gap elapses at a meter receiver (R126). On a looped Port the line marks only while the
transmitter sends nothing. -/
def State.meterIdleGap (p : Port) (s : State) : State :=
  if (s.record p).state.attached || ((s.record p).state = .loopback && !(s.mlu p).sending) then
    s.setMlu p { s.mlu p with rx := (s.mlu p).rx.idleGap }
  else s

/-- A line test times out: 20 character times after its frame has gone with no termination (R146). -/
def State.testTimesOut (p : Port) (s : State) : State :=
  if (s.record p).state = .loopback && (s.mlu p).slots.first.isNone then
    s.endTest p ⟨some .gap, []⟩
  else s

/-- A break is detected on a meter line whose line-up flag is set; a looped Port classifies none
(R133, R144). -/
def State.breakEvent (p : Port) (s : State) : State :=
  if (s.record p).state.attached then (s.detectBreak p).setMarking p false else s

/-- A meter reset by a break; only an attached Port takes one (R104, R133). -/
def State.meterResetEvent (p : Port) (s : State) : State :=
  if (s.record p).state.attached then (s.takeMeterReset p .lineBreak).setMarking p true else s

end Sys2Proof.Machine
end

