-- ==== Sys2Proof/Machine/Power.lean ====
section
/-! DEFINITION. Retained Memory: stopping, starting, RESTART and REINIT (chapter 10). -/

namespace Sys2Proof.Machine

/-- Six values, one for each Port in port order. -/
def perPort {α : Type} (f : Port → α) : Vector α 6 := #v[f 0, f 1, f 2, f 3, f 4, f 5]

/-- The number of Runs that a start-up closes (R165). -/
def Retained.runCount (ret : Retained) : Nat := (ret.runs.toList.filter Option.isSome).length

/-- The Notices of a start-up: STARTUP, then LOCKED in LOCKED, or the RUNEND Notices of the closures in
NORMAL (R165, R170 step 3). -/
def startupNotices (cause : Cause) (locked : Bool) (ret : Retained) : List Notice :=
  if locked then [.startup cause true ret.runCount, .locked]
  else .startup cause false ret.runCount :: restartNotices ret

/-- A start-up from the device state as it stands: the closures, the working state and the Notices
(R170). The pins are the input levels found. Both the power-fail and the reset input are taken as released:
the manual does not say what the release of one does while the other stays asserted (DESIGN CHOICE, log
entry 38). -/
def State.startFrom (cause : Cause) (pins : Pins) (s : State) : State where
  power := .running
  pfail := false
  resetIn := false
  pins := pins
  ret := s.ret.restarted
  shelved := s.shelved
  checkWord := s.checkWord
  lockMark := s.lockMark
  host := HostUnit.atStart (speedOf pins)
  records := perPort fun p => PortRecord.atStart (pins.marking.get p)
  mlus := perPort fun p => Mlu.atStart (pins.marking.get p)
  notices := startupNotices cause s.lockMark s.ret
  lost := false
  sampled := s.sampled
  pending := s.pending

/-- Whether a start-up by power return or reset finds the contents good: the lock mark reads clear and
the check word agrees (R167, R169). A failed backup cell leaves the lock mark reading as set. -/
def State.contentsGood (s : State) (cellFailed : Bool) : Bool :=
  !s.lockMark && !cellFailed && s.checkWord = some (Config.checkWord s.ret)

/-- The part becomes LOCKED: the lock mark is set, and the stored contents are left and not used
(R167, R169). A part already LOCKED stays so. -/
def State.lockContents (s : State) : State :=
  if s.lockMark then s
  else { s with lockMark := true, shelved := some s.ret, ret := Retained.locked }

/-- The start-up at power return or at the release of the reset input (R169, R170). -/
def State.powerUp (pins : Pins) (cellFailed : Bool) (s : State) : State :=
  (if s.contentsGood cellFailed then s else s.lockContents).startFrom .start pins

/-- A Meter Line Unit at supply failing: the frame being received is abandoned, and the transmitter
stops and holds its line at marking (R168). -/
def Mlu.halted (m : Mlu) : Mlu := { m with rx := .idleWait, sending := false, drivingBreak := false }

/-- The part stops taking events (R168): receptions are abandoned and transmitters stop; in NORMAL the
check word is written, wholly or, when the hold-up energy fails first, not. -/
def State.stopped (heldUp : Bool) (s : State) : State :=
  { s with
    power := .stopped
    checkWord :=
      if s.lockMark then s.checkWord
      else if heldUp then some (Config.checkWord s.ret)
      else none
    host := { s.host with rx := .idleWait }
    mlus := perPort fun p => (s.mlu p).halted }

/-- The initial contents are stored, the check word over them is written, and the lock mark is
cleared (R172, steps 1 to 3). -/
def State.reinitialised (s : State) : State :=
  { s with
    ret := Retained.initial
    shelved := none
    checkWord := some (Config.checkWord Retained.initial)
    lockMark := false }

end Sys2Proof.Machine
end

