-- ==== Sys2Proof/Machine/Stock.lean ====
section
/-! DEFINITION. The Stock Unit: the Stock Lines and the Discrepancy Log (chapter 5). The field checks
of a stock request are made field by field, each field's form and then its range (R87). -/

namespace Sys2Proof.Machine

/-- The Stock Line at an index. -/
def State.stockLine (s : State) (i : Fin 24) : StockLine := s.ret.stock.get i

/-- Stores a Stock Line. -/
def State.setStockLine (i : Fin 24) (l : StockLine) (s : State) : State :=
  { s with ret := { s.ret with stock := s.ret.stock.set i l } }

/-- The line field of a stock request (R87). -/
def lineField (fs : List Text) : Checked (Fin 24) := do
  let n ← number fs 1 2
  named 24 n 1

/-- The pieces field of RECEIVE, SELL and RETURN (R87). -/
def piecesField (fs : List Text) : Checked Nat := do
  let n ← number fs 2 5
  refuseIf (n < 1 ∨ 9999 < n) .range 2
  return n

/-- LINE;line;denomination;form;state (R88, R89). -/
def lineRequest (fs : List Text) (s : State) : Answered := do
  let i ← lineField fs
  let denomination ← number fs 2 5
  refuseIf (denomination < 1 ∨ 9999 < denomination) .range 2
  let form ← wordField readForm fs 3
  let state ← wordField readStockState fs 4
  let l := s.stockLine i
  refuseIf (l.denomination.any (· ≠ denomination) ∧ 0 < l.onHand) .notempty 2
  return (s.setStockLine i
      { l with state := state, denomination := some denomination, form := some form },
    .ok .line [.num (i.val + 1), .num denomination, .text form.text, .text state.text])

/-- RECEIVE;line;pieces (R90). -/
def receiveRequest (fs : List Text) (s : State) : Answered := do
  let i ← lineField fs
  let pieces ← piecesField fs
  let l := s.stockLine i
  let value := pieces * l.unit
  refuseIf (l.state ≠ .onSale) .state 1
  refuseIf (s.ret.queue ≠ []) .queued 0
  refuseIf (9999 < l.onHand + pieces) .full 2
  refuseIf (s.ret.pool < value) .short 2
  let t := (s.setPool (s.ret.pool - value)).setStockLine i { l with onHand := l.onHand + pieces }
  return (t, .ok .receive
    [.num (i.val + 1), .num (l.onHand + pieces), .num value, .num t.ret.pool])

/-- SELL;line;pieces (R92). -/
def sellRequest (fs : List Text) (s : State) : Answered := do
  let i ← lineField fs
  let pieces ← piecesField fs
  let l := s.stockLine i
  let value := pieces * l.unit
  refuseIf (l.state = .undefinedLine) .state 1
  refuseIf (l.onHand < pieces) .short 2
  refuseIf (Config.lifetimeMax < l.soldValue + value) .full 2
  return (s.setStockLine i
      { l with
        onHand := l.onHand - pieces
        soldPieces := l.soldPieces + pieces
        soldValue := l.soldValue + value },
    .ok .sell [.num (i.val + 1), .num (l.onHand - pieces), .num value])

/-- The changes of an accepted RETURN before its pass (R93). -/
def State.returned (i : Fin 24) (pieces : Nat) (s : State) : State :=
  (s.setPool (s.ret.pool + pieces * (s.stockLine i).unit)).setStockLine i
    { s.stockLine i with onHand := (s.stockLine i).onHand - pieces }

/-- RETURN;line;pieces (R93). -/
def returnRequest (fs : List Text) (s : State) : Answered := do
  let i ← lineField fs
  let pieces ← piecesField fs
  let l := s.stockLine i
  let value := pieces * l.unit
  refuseIf (l.state = .undefinedLine) .state 1
  refuseIf (l.onHand < pieces) .short 2
  refuseIf (Config.balanceMax < s.ret.pool + value) .poolfull 2
  let t := (s.returned i pieces).pass
  return (t, .ok .returnStock
    [.num (i.val + 1), .num (l.onHand - pieces), .num value, .num t.ret.pool])

/-- The outcome of a count against the book figure (R95). -/
def countOutcome (book counted : Nat) : CountOutcome :=
  if counted = book then .equal else if counted < book then .short else .over

/-- The entry of the Discrepancy Log for a count (R97). -/
def countEntry (i : Fin 24) (l : StockLine) (counted : Nat) : Discrepancy where
  line := i.val + 1
  denomination := l.unit
  book := l.onHand
  counted := counted
  difference := (counted : Int) - l.onHand
  value := ((counted : Int) - l.onHand) * l.unit

/-- An entry is appended to the Discrepancy Log, the oldest of sixteen being discarded first, and the
Discrepancy Count rises by one up to its limit (R97). -/
def State.appendLog (e : Discrepancy) (s : State) : State :=
  { s with ret := { s.ret with
      log := (if s.ret.log.length < Config.logMax then s.ret.log else s.ret.log.drop 1) ++ [e]
      logCount := min Config.logCountMax (s.ret.logCount + 1) } }

/-- The value of a shortage or a surplus, without its sign (R95). -/
def countValue (l : StockLine) (counted : Nat) : Nat :=
  (if counted < l.onHand then l.onHand - counted else counted - l.onHand) * l.unit

/-- The changes of a count with outcome SHORT or OVER (R96, R98). -/
def State.counted (i : Fin 24) (counted : Nat) (s : State) : State :=
  let l := s.stockLine i
  let booked : State := { s with ret := { s.ret with
    shortage := s.ret.shortage + if counted < l.onHand then countValue l counted else 0
    surplus := s.ret.surplus + if counted < l.onHand then 0 else countValue l counted } }
  let logged := (booked.setStockLine i { l with onHand := counted }).appendLog (countEntry i l counted)
  logged.post (.stockdiff (countOutcome l.onHand counted) (countEntry i l counted) logged.ret.logCount)

/-- COUNT;line;counted (R95, R96). -/
def countRequest (fs : List Text) (s : State) : Answered := do
  let i ← lineField fs
  let counted ← number fs 2 5
  refuseIf (9999 < counted) .range 2
  let l := s.stockLine i
  refuseIf (l.state = .undefinedLine) .state 1
  let outcome := countOutcome l.onHand counted
  refuseIf (outcome = .short ∧ Config.lifetimeMax < s.ret.shortage + countValue l counted) .full 2
  refuseIf (outcome = .over ∧ Config.lifetimeMax < s.ret.surplus + countValue l counted) .full 2
  let e := countEntry i l counted
  return (if outcome = .equal then s else s.counted i counted,
    .ok .count [.num (i.val + 1), .text outcome.text, .num l.onHand, .num counted,
      .int e.difference, .int e.value])

/-- The form of a line as a report writes it, empty while the line is UNDEFINED (R99). -/
def formText : Option StockForm → Text
  | some f => f.text
  | none => []

/-- The eight figures of a STOCKREP report (R99). -/
def StockLine.figures (i : Fin 24) (l : StockLine) : List Figure :=
  [.num (i.val + 1), .text l.state.text, .optional l.denomination, .text (formText l.form),
    .num l.onHand, .num l.value, .num l.soldPieces, .num l.soldValue]

/-- STOCKREP;line (R99). -/
def stockrepRequest (fs : List Text) (s : State) : Answered := do
  let i ← lineField fs
  return (s, .ok .stockrep ((s.stockLine i).figures i))

/-- The six fields of a log entry in a report (R100). -/
def Discrepancy.figures (e : Discrepancy) : List Figure :=
  [.num e.line, .num e.denomination, .num e.book, .num e.counted, .int e.difference, .int e.value]

/-- DISCREP;from (R100). -/
def discrepRequest (fs : List Text) (s : State) : Answered := do
  let start ← number fs 1 2
  refuseIf (start < 1 ∨ 16 < start) .range 1
  let entries := (s.ret.log.drop (start - 1)).take 4
  return (s, .ok .discrep
    (.num s.ret.logCount :: .num s.ret.log.length :: .num entries.length ::
      (entries.map Discrepancy.figures).flatten))

end Sys2Proof.Machine
end

