-- ==== Sys2Proof/Machine/HostUnit.lean ====
section
/-! DEFINITION. The Host Line Unit and the Notice Unit's request: taking and checking requests,
composing replies, STATUS, NOTICES, RESTART and REINIT, and what each event at the host line does
(chapters 8 and 9). -/

namespace Sys2Proof.Machine

/-! ### NOTICES (R163) -/

/-- The reply that returns the first `k` of the Notices held (R163). -/
def noticesReply (lost : Bool) (held : List Notice) (k : Nat) : HostReply :=
  .ok .notices
    (.flag lost :: .num k :: .num (held.length - k) :: ((held.take k).map Notice.group).flatten)

/-- How many Notices are returned: from the head, stopping before the first whose group would make the
reply longer than the host frame limit; `fuel` bounds them (R163). -/
def noticesTaken (lost : Bool) (held : List Notice) : Nat → Nat → Nat
  | 0, k => k
  | fuel + 1, k =>
    if k < held.length ∧ (noticesReply lost held (k + 1)).onLine.length ≤ Config.hostLine.maxFrame then
      noticesTaken lost held fuel (k + 1)
    else k

/-- NOTICES (R163): up to four Notices are returned and removed, and LOST is reported and cleared. -/
def noticesRequest (s : State) : Answered :=
  let k := noticesTaken s.lost s.notices 4 0
  return ({ s with notices := s.notices.drop k, lost := false }, noticesReply s.lost s.notices k)

/-! ### STATUS, RESTART and REINIT (R157, R158, R172) -/

/-- The eight figures of a STATUS report (R157). -/
def State.statusFigures (s : State) : List Figure :=
  [.text (deviceText s.lockMark), .num s.ret.current.edition, .num s.ret.next.edition,
    .num s.ret.lastOrder, .num s.ret.queue.length, .num s.notices.length, .num s.host.speed.baud,
    .text s.host.latchText]

/-- STATUS (R157): the report, and the host latched conditions emptied. -/
def statusRequest (s : State) : Answered :=
  return (s.setHost { s.host with overrun := false, frameError := false },
    .ok .status s.statusFigures)

/-- RESTART in NORMAL (R158). -/
def restartRequest (s : State) : Answered :=
  return (s.setHost { s.host with restartPending := some .restart }, .ok .restart [])

/-- REINIT (R172): refused STATE in NORMAL; in LOCKED the contents are reinitialised and restart
pending is set. -/
def reinitRequest (s : State) : Answered := do
  refuseIf (s.lockMark = false) .state 0
  return (s.reinitialised.setHost { s.host with restartPending := some .reinit }, .ok .reinit [])

/-! ### Taking a request (R149, R152) -/

/-- The owning block's part of a request whose checks of R152 have passed (R152, the table). -/
def perform (v : HostVerb) (fs : List Text) (s : State) : Answered :=
  match v with
  | .refill => refillRequest fs s
  | .withdraw => withdrawRequest fs s
  | .spoilref => spoilrefRequest fs s
  | .recall => recallRequest fs s
  | .levels => levelsRequest fs s
  | .limits => limitsRequest fs s
  | .funds => fundsRequest s
  | .portfunds => portfundsRequest fs s
  | .band => bandRequest fs s
  | .quote => quoteRequest fs s
  | .surch => surchRequest fs s
  | .raterep => raterepRequest fs s
  | .tier => tierRequest fs s
  | .edition => editionRequest fs s
  | .activate => activateRequest fs s
  | .clearnext => clearnextRequest s
  | .cancel => cancelRequest fs s
  | .line => lineRequest fs s
  | .receive => receiveRequest fs s
  | .sell => sellRequest fs s
  | .returnStock => returnRequest fs s
  | .count => countRequest fs s
  | .stockrep => stockrepRequest fs s
  | .discrep => discrepRequest fs s
  | .offer => offerRequest fs s
  | .suspend => suspendRequest fs s
  | .resume => resumeRequest fs s
  | .portrep => portrepRequest fs s
  | .meterreset => meterresetRequest fs s
  | .loop => loopRequest fs s
  | .linetest => linetestRequest fs s
  | .notices => noticesRequest s
  | .status => statusRequest s
  | .restart => restartRequest s
  | .reinit => reinitRequest s

/-- Whether a verb is served while the device state is LOCKED (R152, check 2). -/
def HostVerb.servedLocked : HostVerb → Bool
  | .status | .reinit => true
  | _ => false

/-- The outcome of a request taken: the checks of R152, and then its owning block (R149, R154). A
refused request changes nothing. -/
def answerRequest (f : Frame) (s : State) : State × HostReply :=
  match verbOf f.verb with
  | none => (s, .unknown (f.verb.take Config.echoMax))
  | some v =>
    if s.lockMark && !v.servedLocked then (s, .no v .locked 0 none)
    else if f.fields.length ≠ v.fieldCount then (s, .no v .fields 0 none)
    else
      match perform v f.fields s with
      | .error e => (s, .no v e.word e.pos e.extra)
      | .ok r => r

/-- A reply is composed into the free host slot (R147, R149). -/
def State.reply (r : HostReply) (s : State) : State :=
  s.setHost { s.host with slots := s.host.slots.put r }

/-- A request is taken: its outcome, and its reply in the free slot (R149). -/
def State.takeRequest (f : Frame) (s : State) : State :=
  (answerRequest f s).1.reply (answerRequest f s).2

/-- Whether the Host Line Unit may take a request (R149). -/
def State.mayTake (s : State) : Bool := s.host.slots.hasFree && s.host.restartPending.isNone

/-- Requests are taken from the head of the Host Input Hold while a slot is free and restart pending is
clear; `fuel` bounds them (R149). -/
def State.takeHeld : Nat → State → State
  | 0, s => s
  | fuel + 1, s =>
    match s.host.hold with
    | [] => s
    | f :: rest =>
      if s.mayTake then takeHeld fuel ((s.setHost { s.host with hold := rest }).takeRequest f) else s

/-- A complete request reaches the Host Line Unit: it joins the Host Input Hold, and is taken at once
when it can be; at a full hold it is discarded and HOST-OVERRUN latched (R148, R149). -/
def State.requestArrives (f : Frame) (s : State) : State :=
  if s.host.hold.length < Config.holdMax then
    (s.setHost { s.host with hold := s.host.hold ++ [f] }).takeHeld Config.holdMax
  else s.latchHostOverrun

/-- A host frame ends faulty (R150): HOST-FRAME-ERROR is latched, and a FRAME reply composed when a slot
is free and restart pending is clear. -/
def State.hostFault (r : FaultReason) (s : State) : State :=
  let t := s.latchHostFrameError
  if t.mayTake then t.reply (.frame r) else t

/-- The receiver of the host line takes a step, and the termination, if there is one, its effect
(R132). -/
def State.hostReceives (step : Receiver → Receiver × Option Termination) (s : State) : State :=
  let r := step s.host.rx
  let t := s.setHost { s.host with rx := r.1 }
  match r.2 with
  | some (.complete f) => t.requestArrives f
  | some (.fault e) => t.hostFault e
  | none => t

/-! ### The host transmitter, breaks and the pending restart (R149, R151, R158, R159) -/

/-- Whether a reply is that of the RESTART or REINIT whose restart is pending (R158, R172). -/
def HostReply.isRestart : HostReply → Bool
  | .ok .restart _ => true
  | .ok .reinit _ => true
  | _ => false

/-- The part restarts with the cause of the pending restart: the straps are read again and the meter
lines sampled, whatever levels they have then (R158, R171, R172, R176; log entry 10). -/
def State.restartNow (s : State) : State :=
  match s.host.restartPending with
  | some c => ({ s with sampled := s.sampled + 1 } : State).startFrom c (Config.pinsFound s.sampled)
  | none => s

/-- The last character of a host reply has gone (R149): its slot frees and the held requests are taken;
the reply of a pending restart ends in the restart (R158, R171). With no reply in a slot there is no such
event. -/
def State.hostSlotFrees (s : State) : State :=
  match s.host.slots.first with
  | none => s
  | some r =>
    if r.isRestart && s.host.restartPending.isSome then s.restartNow
    else
      (s.setHost { s.host with slots := s.host.slots.release, begun := false }).takeHeld Config.holdMax

/-- The host line's break detector reports a break (R151). `begun` says that the first character of the
reply composed earliest has gone; once known, it stays known until that reply's slot frees. A pending
restart whose reply the break discards is made at the break (R159). -/
def State.hostBreaks (begun : Bool) (s : State) : State :=
  let known := s.host.begun || begun
  let kept := s.host.slots.keepBegun known
  let t := s.setHost { s.host with
    rx := .idleWait
    hold := []
    slots := kept
    begun := known && kept.first.isSome
    frameError := true }
  if t.host.restartPending.isSome && !(kept.frames.any HostReply.isRestart) then t.restartNow else t

/-- The last character of a reply to RESTART or REINIT has gone, with the pins as then found (R171,
R172): only the cause that is pending, with its reply the one being sent, restarts the part. -/
def State.restartEvent (c : Cause) (pins : Pins) (s : State) : State :=
  if s.host.restartPending = some c && s.host.slots.first.any HostReply.isRestart then
    s.startFrom c pins
  else s

end Sys2Proof.Machine
end

