-- ==== Sys2Proof/Machine/HostMeanings.lean ====
section
/-! DEFINITION. The meanings of the host rows of spec/opcode_table.json. A request row is that request
reaching the Host Line Unit complete (R148): it is checked, handed to its block and answered (R149,
R152), or waits in the Host Input Hold, or is discarded there. -/

namespace Sys2Proof.Machine

/-- The outcome of every command: a next state. A part that has stopped takes no event (R168). -/
def State.during (s : State) (f : State → State) : Host.Outcome State Fault Refusal :=
  .next (if s.power = .running then f s else s)

/-- A request of a verb with its fields reaches the Host Line Unit complete (R148, R149). -/
def State.request (s : State) (v : HostVerb) (fields : List Text) :
    Host.Outcome State Fault Refusal :=
  s.during (State.requestArrives ⟨v.text, fields⟩)

/-- REFILL;order;amount (R5). -/
def execRefill (fields : List Text) (s : State) : Host.Outcome State Fault Refusal :=
  s.request .refill fields

/-- WITHDRAW;order;amount (R6). -/
def execWithdraw (fields : List Text) (s : State) : Host.Outcome State Fault Refusal :=
  s.request .withdraw fields

/-- SPOILREF;order;port;pieces;amount (R7). -/
def execSpoilref (fields : List Text) (s : State) : Host.Outcome State Fault Refusal :=
  s.request .spoilref fields

/-- RECALL;port;[amount] (R26). -/
def execRecall (fields : List Text) (s : State) : Host.Outcome State Fault Refusal :=
  s.request .recall fields

/-- LEVELS;port;[low];[target] (R28). -/
def execLevels (fields : List Text) (s : State) : Host.Outcome State Fault Refusal :=
  s.request .levels fields

/-- LIMITS;port;[runvalue];[silence];[wait] (R29). -/
def execLimits (fields : List Text) (s : State) : Host.Outcome State Fault Refusal :=
  s.request .limits fields

/-- FUNDS (R15). -/
def execFunds (fields : List Text) (s : State) : Host.Outcome State Fault Refusal :=
  s.request .funds fields

/-- PORTFUNDS;port (R32). -/
def execPortfunds (fields : List Text) (s : State) : Host.Outcome State Fault Refusal :=
  s.request .portfunds fields

/-- BAND;class;slot;lower;upper;rate, storing a band (R35). -/
def execBand (fields : List Text) (s : State) : Host.Outcome State Fault Refusal :=
  s.request .band fields

/-- BAND;class;slot;;[upper];[rate], emptying a band slot (R36). -/
def execBandRemove (fields : List Text) (s : State) : Host.Outcome State Fault Refusal :=
  s.request .band fields

/-- SURCH;letter;[amount] (R37). -/
def execSurch (fields : List Text) (s : State) : Host.Outcome State Fault Refusal :=
  s.request .surch fields

/-- TIER;slot;[min];[permille] (R38). -/
def execTier (fields : List Text) (s : State) : Host.Outcome State Fault Refusal :=
  s.request .tier fields

/-- EDITION;n (R39). -/
def execEdition (fields : List Text) (s : State) : Host.Outcome State Fault Refusal :=
  s.request .edition fields

/-- CLEARNEXT (R40). -/
def execClearnext (fields : List Text) (s : State) : Host.Outcome State Fault Refusal :=
  s.request .clearnext fields

/-- ACTIVATE;n (R42, R43). -/
def execActivate (fields : List Text) (s : State) : Host.Outcome State Fault Refusal :=
  s.request .activate fields

/-- QUOTE;table;class;weight;[surcharges];pieces (R52). -/
def execQuote (fields : List Text) (s : State) : Host.Outcome State Fault Refusal :=
  s.request .quote fields

/-- RATEREP;table;part (R54). -/
def execRaterep (fields : List Text) (s : State) : Host.Outcome State Fault Refusal :=
  s.request .raterep fields

/-- CANCEL;port (R73 to R76). -/
def execCancel (fields : List Text) (s : State) : Host.Outcome State Fault Refusal :=
  s.request .cancel fields

/-- LINE;line;denomination;form;state (R88, R89). -/
def execLine (fields : List Text) (s : State) : Host.Outcome State Fault Refusal :=
  s.request .line fields

/-- RECEIVE;line;pieces (R90). -/
def execReceive (fields : List Text) (s : State) : Host.Outcome State Fault Refusal :=
  s.request .receive fields

/-- SELL;line;pieces (R92). -/
def execSell (fields : List Text) (s : State) : Host.Outcome State Fault Refusal :=
  s.request .sell fields

/-- RETURN;line;pieces (R93). -/
def execReturnStock (fields : List Text) (s : State) : Host.Outcome State Fault Refusal :=
  s.request .returnStock fields

/-- COUNT;line;counted (R95). -/
def execCount (fields : List Text) (s : State) : Host.Outcome State Fault Refusal :=
  s.request .count fields

/-- STOCKREP;line (R99). -/
def execStockrep (fields : List Text) (s : State) : Host.Outcome State Fault Refusal :=
  s.request .stockrep fields

/-- DISCREP;from (R100). -/
def execDiscrep (fields : List Text) (s : State) : Host.Outcome State Fault Refusal :=
  s.request .discrep fields

/-- OFFER;[classes];[surcharges];[maxrun];[block] (R106). -/
def execOffer (fields : List Text) (s : State) : Host.Outcome State Fault Refusal :=
  s.request .offer fields

/-- SUSPEND;port (R114). -/
def execSuspend (fields : List Text) (s : State) : Host.Outcome State Fault Refusal :=
  s.request .suspend fields

/-- RESUME;port (R115). -/
def execResume (fields : List Text) (s : State) : Host.Outcome State Fault Refusal :=
  s.request .resume fields

/-- PORTREP;port (R123). -/
def execPortrep (fields : List Text) (s : State) : Host.Outcome State Fault Refusal :=
  s.request .portrep fields

/-- METERRESET;port (R143). -/
def execMeterResetRequest (fields : List Text) (s : State) : Host.Outcome State Fault Refusal :=
  s.request .meterreset fields

/-- LOOP;port;ON (R144). -/
def execLoopOn (fields : List Text) (s : State) : Host.Outcome State Fault Refusal :=
  s.request .loop fields

/-- LOOP;port;OFF (R145). -/
def execLoopOff (fields : List Text) (s : State) : Host.Outcome State Fault Refusal :=
  s.request .loop fields

/-- LINETEST;port;text (R146). -/
def execLinetest (fields : List Text) (s : State) : Host.Outcome State Fault Refusal :=
  s.request .linetest fields

/-- NOTICES (R163). -/
def execNotices (fields : List Text) (s : State) : Host.Outcome State Fault Refusal :=
  s.request .notices fields

/-- STATUS (R157). -/
def execStatus (fields : List Text) (s : State) : Host.Outcome State Fault Refusal :=
  s.request .status fields

/-- RESTART (R158). -/
def execRestart (fields : List Text) (s : State) : Host.Outcome State Fault Refusal :=
  s.request .restart fields

/-- REINIT (R172). -/
def execReinit (fields : List Text) (s : State) : Host.Outcome State Fault Refusal :=
  s.request .reinit fields

/-- A request whose verb is no host verb: refused UNKNOWN (R152). -/
def execHostUnknownVerb (verb : Text) (fields : List Text) (s : State) :
    Host.Outcome State Fault Refusal :=
  s.during (State.requestArrives ⟨verb, fields⟩)

/-- The host receiver ends the frame it collects COMPLETE (R128, R148). -/
def execHostFrameComplete (s : State) : Host.Outcome State Fault Refusal :=
  s.during (State.hostReceives Receiver.complete)

/-- The host receiver ends the frame it collects with a faulty reason (R150). PARITY does not arise on
the host line (R129), and BREAK arises with the break itself (R151). -/
def execHostFrameError (reason : FaultReason) (s : State) : Host.Outcome State Fault Refusal :=
  s.during fun t =>
    if reason = .parity ∨ reason = .lineBreak then t else t.hostReceives (Receiver.fault reason)

/-- The host line's break detector reports a break (R151, R159). -/
def execHostBreak (begun : Bool) (s : State) : Host.Outcome State Fault Refusal :=
  s.during (State.hostBreaks begun)

/-- The last character of a host reply has gone (R149, R158). -/
def execHostSlotFree (s : State) : Host.Outcome State Fault Refusal :=
  s.during State.hostSlotFrees

/-- A flow character received cleanly on the host line is discarded (R131). -/
def execHostFlowCharacter (_flow : Flow) (s : State) : Host.Outcome State Fault Refusal :=
  s.during (State.hostReceives Receiver.flow)

end Sys2Proof.Machine
end

