-- ==== Sys2Proof/Machine/MeterMeanings.lean ====
section
/-! DEFINITION. The meanings of the rows of the meter lines, of the receivers' timers and characters,
and of the Run timers. An event that the manual does not let reach a line, a Port or a Run in its
present state leaves the part as it is (log entry 2). -/

namespace Sys2Proof.Machine

/-- The idle gap elapses at a receiver in IDLE-WAIT (R126). -/
def execIdleGapElapsed (line : Line) (s : State) : Host.Outcome State Fault Refusal :=
  s.during fun t =>
    match line with
    | .host => t.setHost { t.host with rx := t.host.rx.idleGap }
    | .meter p => t.meterIdleGap p

/-- A receiver of a line takes a step (R126, R132). -/
def State.receives (line : Line) (step : Receiver → Receiver × Option Termination) (s : State) :
    State :=
  match line with
  | .host => s.hostReceives step
  | .meter p => s.meterReceives p step

/-- The intercharacter limit expires in COLLECT: the frame ends GAP (R130). -/
def execIntercharacterLimitExpiry (line : Line) (s : State) : Host.Outcome State Fault Refusal :=
  s.during (State.receives line (Receiver.fault .gap))

/-- The message limit expires in COLLECT: the frame ends TOOSLOW (R130). -/
def execMessageLimitExpiry (line : Line) (s : State) : Host.Outcome State Fault Refusal :=
  s.during (State.receives line (Receiver.fault .tooslow))

/-- A meter receiver ends the frame it collects COMPLETE (R128, R132, R137). -/
def execMeterFrameComplete (port : Port) (s : State) : Host.Outcome State Fault Refusal :=
  s.during (State.meterReceives port Receiver.complete)

/-- A meter receiver ends the frame it collects with a faulty reason (R132). -/
def execMeterFrameError (port : Port) (reason : FaultReason) (s : State) :
    Host.Outcome State Fault Refusal :=
  s.during (State.meterReceives port (Receiver.fault reason))

/-- The last character of a meter frame has gone, and its slot frees (R140, R141). -/
def execMeterSlotFree (port : Port) (s : State) : Host.Outcome State Fault Refusal :=
  s.during (State.meterSlotFrees port)

/-- A HOLD received cleanly from a meter (R139). -/
def execHold (port : Port) (s : State) : Host.Outcome State Fault Refusal :=
  s.during (State.meterFlow port .hold)

/-- A GO received cleanly from a meter (R139). -/
def execGo (port : Port) (s : State) : Host.Outcome State Fault Refusal :=
  s.during (State.meterFlow port .go)

/-- An ANNOUNCE of a meter reaches its Meter Line Unit complete (R108, R109, R137). -/
def execAnnounce (port : Port) (fields : List Text) (s : State) : Host.Outcome State Fault Refusal :=
  s.during (State.frameArrives port ⟨announceVerb, fields⟩)

/-- A RUN of a meter reaches its Meter Line Unit complete (R60 to R63, R137). -/
def execRun (port : Port) (fields : List Text) (s : State) : Host.Outcome State Fault Refusal :=
  s.during (State.frameArrives port ⟨runVerb, fields⟩)

/-- A DONE of a meter reaches its Meter Line Unit complete (R69, R70, R137). -/
def execDone (port : Port) (fields : List Text) (s : State) : Host.Outcome State Fault Refusal :=
  s.during (State.frameArrives port ⟨doneVerb, fields⟩)

/-- A STOP of a meter reaches its Meter Line Unit complete (R71, R72, R137). -/
def execStop (port : Port) (fields : List Text) (s : State) : Host.Outcome State Fault Refusal :=
  s.during (State.frameArrives port ⟨stopVerb, fields⟩)

/-- A meter record with another verb reaches its Meter Line Unit complete (R105, R137). -/
def execMeterUnknownVerb (port : Port) (verb : Text) (fields : List Text) (s : State) :
    Host.Outcome State Fault Refusal :=
  s.during (State.frameArrives port ⟨verb, fields⟩)

/-- A meter line has been at space for 2 character times (R133). -/
def execBreakDetected (port : Port) (s : State) : Host.Outcome State Fault Refusal :=
  s.during (State.breakEvent port)

/-- A break on a meter line ends before 1 second: meter reset (R133, R134, R118). -/
def execMeterReset (port : Port) (s : State) : Host.Outcome State Fault Refusal :=
  s.during (State.meterResetEvent port)

/-- A space on a meter line reaches 1 second: line down (R133, R134, R117). -/
def execLineDown (port : Port) (s : State) : Host.Outcome State Fault Refusal :=
  s.during (State.lineDownEvent port)

/-- A meter line with its line-up flag clear has marked for 100 ms: line up (R133, R119). -/
def execLineUp (port : Port) (s : State) : Host.Outcome State Fault Refusal :=
  s.during (State.lineUpEvent port)

/-- The looped receiver ends a frame, COMPLETE (`none`) or faulty, and the line test ends (R146). -/
def execLoopbackTestEnd (port : Port) (fault : Option FaultReason) (s : State) :
    Host.Outcome State Fault Refusal :=
  s.during fun t =>
    if (t.record port).state = .loopback then
      match fault with
      | none => t.meterReceives port Receiver.complete
      | some r => t.meterReceives port (Receiver.fault r)
    else t

/-- A line test times out (R146). -/
def execLoopbackTestTimeout (port : Port) (s : State) : Host.Outcome State Fault Refusal :=
  s.during (State.testTimesOut port)

/-- The silence timer of a Port's Run expires (R78). -/
def execSilenceTimerExpiry (port : Port) (s : State) : Host.Outcome State Fault Refusal :=
  s.during (State.silenceExpired port)

/-- The wait timer of a Port's Run expires (R79). -/
def execWaitTimerExpiry (port : Port) (s : State) : Host.Outcome State Fault Refusal :=
  s.during (State.waitExpired port)

/-- A character is received on a line (R126 to R129). A clean flow character is recognised as such
(R131). -/
def execCharacterReceived (line : Line) (char : Chr) (error : CharError) (s : State) :
    Host.Outcome State Fault Refusal :=
  s.during fun t =>
    match (if Line.error line error = .clean then flowOf char else none), line with
    | some _, .host => t.hostReceives Receiver.flow
    | some f, .meter p => t.meterFlow p f
    | none, .host =>
      t.hostReceives (Receiver.receive Config.hostLine.maxFrame char (Line.error line error))
    | none, .meter p => t.meterHears p char error

/-- The transmitter ends the break of a METERRESET (R143). -/
def execMeterresetBreakEnd (port : Port) (s : State) : Host.Outcome State Fault Refusal :=
  s.during (State.breakEnds port)

end Sys2Proof.Machine
end

