-- ==== Sys2Proof/Machine/PowerMeanings.lean ====
section
/-! DEFINITION. The meanings of the rows of power, reset and start-up (chapter 10). -/

namespace Sys2Proof.Machine

/-- The power-fail input is asserted: the part stops (R168). `heldUp` says that the hold-up energy
lasted until the check word was wholly written. -/
def execSupplyFailing (heldUp : Bool) (s : State) : Host.Outcome State Fault Refusal :=
  s.during fun t => { t.stopped heldUp with pfail := true }

/-- The reset input is asserted: the part stops as at supply failing (R168). -/
def execResetAsserted (s : State) : Host.Outcome State Fault Refusal :=
  s.during fun t => { t.stopped true with resetIn := true }

/-- Power returns, or the reset input is released (R168, R169, R170). `cellFailed` says that the backup
cell failed while the part was off. A part that has not stopped makes no such start-up. -/
def execStartUp (pins : Pins) (cellFailed : Bool) (s : State) : Host.Outcome State Fault Refusal :=
  .next (if s.power = .stopped then s.powerUp pins cellFailed else s)

/-- The last character of a RESTART reply has gone (R171). -/
def execRestartStartUp (pins : Pins) (s : State) : Host.Outcome State Fault Refusal :=
  s.during (State.restartEvent .restart pins)

/-- The last character of a REINIT reply has gone (R172). -/
def execReinitStartUp (pins : Pins) (s : State) : Host.Outcome State Fault Refusal :=
  s.during (State.restartEvent .reinit pins)

end Sys2Proof.Machine
end

