-- ==== Sys2Proof/Machine/Dispatch.lean ====
section
/-! DEFINITION. One arm for each command: a direct call of its meaning. -/

namespace Sys2Proof.Machine

def exec (i : Instr) (s : State) : Host.Outcome State Fault Refusal :=
  match i with
  | .refill fields => Sys2Proof.Machine.execRefill fields s
  | .withdraw fields => Sys2Proof.Machine.execWithdraw fields s
  | .spoilref fields => Sys2Proof.Machine.execSpoilref fields s
  | .recall fields => Sys2Proof.Machine.execRecall fields s
  | .levels fields => Sys2Proof.Machine.execLevels fields s
  | .limits fields => Sys2Proof.Machine.execLimits fields s
  | .funds fields => Sys2Proof.Machine.execFunds fields s
  | .portfunds fields => Sys2Proof.Machine.execPortfunds fields s
  | .band fields => Sys2Proof.Machine.execBand fields s
  | .bandRemove fields => Sys2Proof.Machine.execBandRemove fields s
  | .surch fields => Sys2Proof.Machine.execSurch fields s
  | .tier fields => Sys2Proof.Machine.execTier fields s
  | .edition fields => Sys2Proof.Machine.execEdition fields s
  | .clearnext fields => Sys2Proof.Machine.execClearnext fields s
  | .activate fields => Sys2Proof.Machine.execActivate fields s
  | .quote fields => Sys2Proof.Machine.execQuote fields s
  | .raterep fields => Sys2Proof.Machine.execRaterep fields s
  | .cancel fields => Sys2Proof.Machine.execCancel fields s
  | .line fields => Sys2Proof.Machine.execLine fields s
  | .receive fields => Sys2Proof.Machine.execReceive fields s
  | .sell fields => Sys2Proof.Machine.execSell fields s
  | .returnStock fields => Sys2Proof.Machine.execReturnStock fields s
  | .count fields => Sys2Proof.Machine.execCount fields s
  | .stockrep fields => Sys2Proof.Machine.execStockrep fields s
  | .discrep fields => Sys2Proof.Machine.execDiscrep fields s
  | .offer fields => Sys2Proof.Machine.execOffer fields s
  | .suspend fields => Sys2Proof.Machine.execSuspend fields s
  | .resume fields => Sys2Proof.Machine.execResume fields s
  | .portrep fields => Sys2Proof.Machine.execPortrep fields s
  | .meterreset fields => Sys2Proof.Machine.execMeterResetRequest fields s
  | .loopOn fields => Sys2Proof.Machine.execLoopOn fields s
  | .loopOff fields => Sys2Proof.Machine.execLoopOff fields s
  | .linetest fields => Sys2Proof.Machine.execLinetest fields s
  | .notices fields => Sys2Proof.Machine.execNotices fields s
  | .status fields => Sys2Proof.Machine.execStatus fields s
  | .restart fields => Sys2Proof.Machine.execRestart fields s
  | .reinit fields => Sys2Proof.Machine.execReinit fields s
  | .hostUnknownVerb verb fields => Sys2Proof.Machine.execHostUnknownVerb verb fields s
  | .hostFrameComplete => Sys2Proof.Machine.execHostFrameComplete s
  | .hostFrameError reason => Sys2Proof.Machine.execHostFrameError reason s
  | .hostBreak begun => Sys2Proof.Machine.execHostBreak begun s
  | .hostSlotFree => Sys2Proof.Machine.execHostSlotFree s
  | .hostFlowCharacter flow => Sys2Proof.Machine.execHostFlowCharacter flow s
  | .idleGapElapsed line => Sys2Proof.Machine.execIdleGapElapsed line s
  | .intercharacterLimitExpiry line => Sys2Proof.Machine.execIntercharacterLimitExpiry line s
  | .messageLimitExpiry line => Sys2Proof.Machine.execMessageLimitExpiry line s
  | .meterFrameComplete port => Sys2Proof.Machine.execMeterFrameComplete port s
  | .meterFrameError port reason => Sys2Proof.Machine.execMeterFrameError port reason s
  | .meterSlotFree port => Sys2Proof.Machine.execMeterSlotFree port s
  | .hold port => Sys2Proof.Machine.execHold port s
  | .go port => Sys2Proof.Machine.execGo port s
  | .announce port fields => Sys2Proof.Machine.execAnnounce port fields s
  | .run port fields => Sys2Proof.Machine.execRun port fields s
  | .done port fields => Sys2Proof.Machine.execDone port fields s
  | .stop port fields => Sys2Proof.Machine.execStop port fields s
  | .meterUnknownVerb port verb fields => Sys2Proof.Machine.execMeterUnknownVerb port verb fields s
  | .breakDetected port => Sys2Proof.Machine.execBreakDetected port s
  | .meterReset port => Sys2Proof.Machine.execMeterReset port s
  | .lineDown port => Sys2Proof.Machine.execLineDown port s
  | .lineUp port => Sys2Proof.Machine.execLineUp port s
  | .loopbackTestEnd port fault => Sys2Proof.Machine.execLoopbackTestEnd port fault s
  | .loopbackTestTimeout port => Sys2Proof.Machine.execLoopbackTestTimeout port s
  | .silenceTimerExpiry port => Sys2Proof.Machine.execSilenceTimerExpiry port s
  | .waitTimerExpiry port => Sys2Proof.Machine.execWaitTimerExpiry port s
  | .supplyFailing heldUp => Sys2Proof.Machine.execSupplyFailing heldUp s
  | .resetAsserted => Sys2Proof.Machine.execResetAsserted s
  | .startUp pins cellFailed => Sys2Proof.Machine.execStartUp pins cellFailed s
  | .restartStartUp pins => Sys2Proof.Machine.execRestartStartUp pins s
  | .reinitStartUp pins => Sys2Proof.Machine.execReinitStartUp pins s
  | .characterReceived line char error => Sys2Proof.Machine.execCharacterReceived line char error s
  | .meterresetBreakEnd port => Sys2Proof.Machine.execMeterresetBreakEnd port s

end Sys2Proof.Machine
end

