-- ==== Sys2Proof/WellFormed.lean ====
section
/-! DEFINITION. Which terms of Instr stand for an event that the part can meet: a request or a record
that a receiver can have ended COMPLETE (R173), or an event with an operand its line allows. The
meanings are total and need none of this; a term that fails a check stands for nothing on the lines. -/

namespace Sys2Proof

open Machine

/-- Whether a character may stand in a verb or in a field (R173). -/
def isFieldChar (c : Chr) : Bool := 0x20 ≤ c.toNat && c.toNat ≤ 0x7A && c ≠ separator

/-- Whether a verb and its fields are what a receiver with a frame limit can have ended COMPLETE: field
characters only (R127), in a frame no longer than the limit (R125, R173). -/
def receivable (limit : Nat) (verb : Text) (fields : List Text) : Bool :=
  verb.all isFieldChar && fields.all (fun f => f.all isFieldChar) &&
    (layFrame (joinFields verb fields)).length ≤ limit

/-- Whether a host request is receivable on the host line. -/
def hostReceivable (v : HostVerb) (fields : List Text) : Bool :=
  receivable Config.hostLine.maxFrame v.text fields

/-- Whether a meter record is receivable on a meter line. -/
def meterReceivable (verb : Text) (fields : List Text) : Bool :=
  receivable Config.meterLine.maxFrame verb fields

/-- The four verbs of meter records (section 11.4). -/
def meterVerbs : List Text := [word "ANNOUNCE", word "RUN", word "DONE", word "STOP"]

/-- Whether a command stands for an event that the part can meet. -/
def Instr.wellFormed : Instr → Bool
  | .refill fs => hostReceivable .refill fs
  | .withdraw fs => hostReceivable .withdraw fs
  | .spoilref fs => hostReceivable .spoilref fs
  | .recall fs => hostReceivable .recall fs
  | .levels fs => hostReceivable .levels fs
  | .limits fs => hostReceivable .limits fs
  | .funds fs => hostReceivable .funds fs
  | .portfunds fs => hostReceivable .portfunds fs
  -- the two rows of BAND part by their lower field (R35, R36)
  | .band fs => hostReceivable .band fs && fieldAt fs 3 ≠ []
  | .bandRemove fs => hostReceivable .band fs && fieldAt fs 3 = []
  | .surch fs => hostReceivable .surch fs
  | .tier fs => hostReceivable .tier fs
  | .edition fs => hostReceivable .edition fs
  | .clearnext fs => hostReceivable .clearnext fs
  | .activate fs => hostReceivable .activate fs
  | .quote fs => hostReceivable .quote fs
  | .raterep fs => hostReceivable .raterep fs
  | .cancel fs => hostReceivable .cancel fs
  | .line fs => hostReceivable .line fs
  | .receive fs => hostReceivable .receive fs
  | .sell fs => hostReceivable .sell fs
  | .returnStock fs => hostReceivable .returnStock fs
  | .count fs => hostReceivable .count fs
  | .stockrep fs => hostReceivable .stockrep fs
  | .discrep fs => hostReceivable .discrep fs
  | .offer fs => hostReceivable .offer fs
  | .suspend fs => hostReceivable .suspend fs
  | .resume fs => hostReceivable .resume fs
  | .portrep fs => hostReceivable .portrep fs
  | .meterreset fs => hostReceivable .meterreset fs
  -- the two rows of LOOP part by the mode OFF; a LOOP with no mode of R144 goes with LOOP_ON
  | .loopOn fs => hostReceivable .loop fs && fieldAt fs 2 ≠ word "OFF"
  | .loopOff fs => hostReceivable .loop fs && fieldAt fs 2 = word "OFF"
  | .linetest fs => hostReceivable .linetest fs
  | .notices fs => hostReceivable .notices fs
  | .status fs => hostReceivable .status fs
  | .restart fs => hostReceivable .restart fs
  | .reinit fs => hostReceivable .reinit fs
  | .hostUnknownVerb verb fs =>
    receivable Config.hostLine.maxFrame verb fs && (verbOf verb).isNone
  | .hostFrameComplete => true
  -- the host line has no parity bit (R129), and its break is the row HOST_BREAK (R151)
  | .hostFrameError reason => reason ≠ .parity && reason ≠ .lineBreak
  | .hostBreak _ => true
  | .hostSlotFree => true
  | .hostFlowCharacter _ => true
  | .idleGapElapsed _ => true
  | .intercharacterLimitExpiry _ => true
  | .messageLimitExpiry _ => true
  | .meterFrameComplete _ => true
  -- a frame ends BREAK in the row BREAK_DETECTED (R133)
  | .meterFrameError _ reason => reason ≠ .lineBreak
  | .meterSlotFree _ => true
  | .hold _ => true
  | .go _ => true
  | .announce _ fs => meterReceivable (word "ANNOUNCE") fs
  | .run _ fs => meterReceivable (word "RUN") fs
  | .done _ fs => meterReceivable (word "DONE") fs
  | .stop _ fs => meterReceivable (word "STOP") fs
  | .meterUnknownVerb _ verb fs => meterReceivable verb fs && !meterVerbs.contains verb
  | .breakDetected _ => true
  | .meterReset _ => true
  | .lineDown _ => true
  | .lineUp _ => true
  -- a looped receiver hears no break (R120)
  | .loopbackTestEnd _ fault => fault ≠ some .lineBreak
  | .loopbackTestTimeout _ => true
  | .silenceTimerExpiry _ => true
  | .waitTimerExpiry _ => true
  | .supplyFailing _ => true
  | .resetAsserted => true
  | .startUp _ _ => true
  | .restartStartUp _ => true
  | .reinitStartUp _ => true
  -- a flow character received cleanly is the row HOLD, GO or HOST_FLOW_CHARACTER (R126, R131)
  | .characterReceived l char error =>
    !(l = .host && error = .parity) && !(error = .clean && (flowOf char).isSome)
  | .meterresetBreakEnd _ => true

end Sys2Proof
end

