-- ==== Sys2Proof/Safety.lean ====
section
/-! DEFINITION. What the manual promises of every moment of the part, and the conditions under which a
command completes at once: the terms the statements are made in. -/

namespace Sys2Proof.Machine

/-! ### When a command is taken at once -/

/-- The host verb and the fields of a command that is a host request (R152). -/
def hostRequest : Instr → Option (HostVerb × List Text)
  | .refill fs => some (.refill, fs)
  | .withdraw fs => some (.withdraw, fs)
  | .spoilref fs => some (.spoilref, fs)
  | .recall fs => some (.recall, fs)
  | .levels fs => some (.levels, fs)
  | .limits fs => some (.limits, fs)
  | .funds fs => some (.funds, fs)
  | .portfunds fs => some (.portfunds, fs)
  | .band fs => some (.band, fs)
  | .bandRemove fs => some (.band, fs)
  | .surch fs => some (.surch, fs)
  | .tier fs => some (.tier, fs)
  | .edition fs => some (.edition, fs)
  | .clearnext fs => some (.clearnext, fs)
  | .activate fs => some (.activate, fs)
  | .quote fs => some (.quote, fs)
  | .raterep fs => some (.raterep, fs)
  | .cancel fs => some (.cancel, fs)
  | .line fs => some (.line, fs)
  | .receive fs => some (.receive, fs)
  | .sell fs => some (.sell, fs)
  | .returnStock fs => some (.returnStock, fs)
  | .count fs => some (.count, fs)
  | .stockrep fs => some (.stockrep, fs)
  | .discrep fs => some (.discrep, fs)
  | .offer fs => some (.offer, fs)
  | .suspend fs => some (.suspend, fs)
  | .resume fs => some (.resume, fs)
  | .portrep fs => some (.portrep, fs)
  | .meterreset fs => some (.meterreset, fs)
  | .loopOn fs => some (.loop, fs)
  | .loopOff fs => some (.loop, fs)
  | .linetest fs => some (.linetest, fs)
  | .notices fs => some (.notices, fs)
  | .status fs => some (.status, fs)
  | .restart fs => some (.restart, fs)
  | .reinit fs => some (.reinit, fs)
  | .hostUnknownVerb _ _ => none
  | .hostFrameComplete => none
  | .hostFrameError _ => none
  | .hostBreak _ => none
  | .hostSlotFree => none
  | .hostFlowCharacter _ => none
  | .idleGapElapsed _ => none
  | .intercharacterLimitExpiry _ => none
  | .messageLimitExpiry _ => none
  | .meterFrameComplete _ => none
  | .meterFrameError _ _ => none
  | .meterSlotFree _ => none
  | .hold _ => none
  | .go _ => none
  | .announce _ _ => none
  | .run _ _ => none
  | .done _ _ => none
  | .stop _ _ => none
  | .meterUnknownVerb _ _ _ => none
  | .breakDetected _ => none
  | .meterReset _ => none
  | .lineDown _ => none
  | .lineUp _ => none
  | .loopbackTestEnd _ _ => none
  | .loopbackTestTimeout _ => none
  | .silenceTimerExpiry _ => none
  | .waitTimerExpiry _ => none
  | .supplyFailing _ => none
  | .resetAsserted => none
  | .startUp _ _ => none
  | .restartStartUp _ => none
  | .reinitStartUp _ => none
  | .characterReceived _ _ _ => none
  | .meterresetBreakEnd _ => none

/-- A request that arrives is taken at once: the part runs, no request is held, a host slot is free and
no restart is pending (R148, R149). -/
structure State.HostFree (s : State) : Prop where
  running : s.power = .running
  hold : s.host.hold = []
  slot : s.host.slots.hasFree = true
  pending : s.host.restartPending = none

/-- The part serves every host verb: a request is taken at once and the device state is NORMAL (R152). -/
structure State.HostReady (s : State) : Prop extends s.HostFree where
  normal : s.lockMark = false

/-- A record that arrives on a meter line is taken at once: the part runs, the Port is UNANNOUNCED,
READY or REFUSED, no frame is queued, none is owed and a slot is free (R137, R141). -/
structure State.MeterFree (s : State) (p : Port) : Prop where
  running : s.power = .running
  attached : (s.record p).state.attached = true
  inputs : (s.mlu p).inputs = []
  owed : (s.mlu p).owed = none
  slot : (s.mlu p).slots.hasFree = true

/-- The next state that a refused request leaves: only its reply is composed (R154). -/
def State.refusal (s : State) (v : HostVerb) (w : RefusalWord) (pos : Nat) :
    Host.Outcome State Fault Refusal :=
  .next (s.reply (.no v w pos none))

/-- The Port and the frame of a command that is a record of a meter (R105). -/
def meterRecord : Instr → Option (Port × Frame)
  | .announce p fs => some (p, ⟨announceVerb, fs⟩)
  | .run p fs => some (p, ⟨runVerb, fs⟩)
  | .done p fs => some (p, ⟨doneVerb, fs⟩)
  | .stop p fs => some (p, ⟨stopVerb, fs⟩)
  | .meterUnknownVerb p verb fs => some (p, ⟨verb, fs⟩)
  | _ => none

/-- The most digits of a request's first field, where that field is a number (R153 and the rule of each
request). -/
def HostVerb.firstDigits : HostVerb → Option Nat
  | .refill | .withdraw | .spoilref => some 6
  | .edition | .activate => some 5
  | .line | .receive | .sell | .returnStock | .count | .stockrep | .discrep => some 2
  | .recall | .levels | .limits | .portfunds | .band | .tier | .cancel => some 1
  | .suspend | .resume | .portrep | .meterreset | .loop | .linetest => some 1
  | .funds | .quote | .surch | .raterep | .clearnext | .offer => none
  | .notices | .status | .restart | .reinit => none

/-- A number field that may be empty: absent when it is, and none when it is no number (R153). -/
def readOptional (most : Nat) (t : Text) : Option (Option Nat) :=
  if t = [] then some none else (readNumber most t).map some

/-! ### Characters on a line -/

/-- What a receiver makes of characters received cleanly one after another: the state it is left in and
the frames it ended, in order (R126 to R128). -/
def Receiver.hear (maxFrame : Nat) : Receiver → Text → Receiver × List Termination
  | r, [] => (r, [])
  | r, c :: cs =>
    ((Receiver.hear maxFrame (r.receive maxFrame c .clean).1 cs).1,
      (r.receive maxFrame c .clean).2.toList ++
        (Receiver.hear maxFrame (r.receive maxFrame c .clean).1 cs).2)

/-- The outcome of characters received cleanly on a line one after another (R126). -/
def hearOnLine (line : Line) : Text → State → Host.Outcome State Fault Refusal
  | [], s => .next s
  | c :: cs, s =>
    match exec (.characterReceived line c .clean) s with
    | .next t => hearOnLine line cs t
    | other => other

/-! ### What a line event leaves at its Port -/

/-- What a meter reset or a line down leaves at a Meter Line Unit (R134): an empty queue, empty slots with
slot A next, nothing owed, neither side held, no flow character to go and the receiver in IDLE-WAIT. -/
def Mlu.Cleared (m : Mlu) : Prop :=
  m.rx = .idleWait ∧ m.inputs = [] ∧ m.slots = .empty .A ∧ m.sending = false ∧ m.owed = none ∧
    m.heldByUs = false ∧ m.heldByMeter = false ∧ m.flowOut = none

/-- How a line event closes the Run of its Port (R82, R30): the Port has none after it and has left the
queue, and without a Run, or with one that was not WAITING, nothing retained changes but the Port's
Reserved, returned to its Available, and its Run Record. -/
def State.ClosedAtLine (s t : State) (p : Port) : Prop :=
  t.runOf p = none ∧
    (s.runOf p = none → t.ret = s.ret) ∧
    ∀ r, s.runOf p = some r → p ∉ t.ret.queue ∧
      (r.state ≠ .waiting → t.ret = { s.ret with
        funds := s.ret.funds.set p { s.fundsOf p with
          available := (s.fundsOf p).available + (s.fundsOf p).reserved, reserved := 0 }
        runs := s.ret.runs.set p none
        queue := s.ret.queue.filter (· ≠ p) })

/-- How a meter reset leaves its Port (R118, R134): its Meter Line Unit cleared with the line up as before,
UNANNOUNCED with no Profile, its Run closed, METER-RESET latched, and the METERRESET Notice last. -/
def State.ResetAtLine (s t : State) (p : Port) (cause : ResetCause) : Prop :=
  (t.mlu p).Cleared ∧ (t.mlu p).lineUp = (s.mlu p).lineUp ∧ (t.record p).state = .unannounced ∧
    (t.record p).profile = none ∧ (t.record p).latched.meterReset = true ∧ s.ClosedAtLine t p ∧
    t.notices.getLast? = some (.meterreset p cause (s.record p).state (s.runIdOr0 p)
      (t.fundsOf p).available)

/-! ### The laws of the accounts -/

/-- The balance (R14), with Withdrawn Total carried to the right side. -/
def State.Balanced (s : State) : Prop :=
  s.ret.credited + s.ret.surplus =
    s.ret.withdrawn + s.ret.pool
      + sumOver s.ret.funds (fun f => f.available + f.reserved + f.usedValue)
      + sumOver s.ret.stock (fun l => l.onHand * l.unit + l.soldValue)
      + s.ret.shortage

/-- What every Run Record satisfies: its price (R51) and its counts (R55, R58). -/
structure Run.Sound (r : Run) : Prop where
  charge : 1 ≤ r.charge
  total : r.total = r.charge * r.pieces
  totalMax : r.total ≤ Config.balanceMax
  granted : r.granted ≤ r.pieces
  printed : r.printed ≤ r.granted
  block : r.outstanding ≤ r.block
  spoiled : r.spoiled ≤ r.printed
  waiting : r.state = .waiting → r.granted = 0
  cancel : r.cancelRequested = true ↔ r.state = .cancelling

/-- The pieces of a Port that are granted and not yet reported. -/
def State.outstandingPieces (s : State) (p : Port) : Nat :=
  match s.runOf p with
  | some r => if r.state = .waiting then 0 else r.outstanding
  | none => 0

/-- The funds of a Port against its Run (R58, R19 to R21, R62 order 12). -/
structure State.PortSound (s : State) (p : Port) : Prop where
  sound : ∀ r, s.runOf p = some r → r.Sound
  idle : s.runOf p = none → (s.fundsOf p).reserved = 0
  waiting : ∀ r, s.runOf p = some r → r.state = .waiting →
    (s.fundsOf p).reserved = 0 ∧ (s.fundsOf p).usedValue + r.total ≤ Config.lifetimeMax
  held : ∀ r, s.runOf p = some r → r.state ≠ .waiting →
    (s.fundsOf p).reserved = (r.pieces - r.granted) * r.charge
  holding : s.holding p ≤ Config.balanceMax
  usedMax : (s.fundsOf p).usedValue + (s.fundsOf p).reserved ≤ Config.lifetimeMax
  spoilValue : (s.fundsOf p).spoilValue + s.outstandingValue p ≤ (s.fundsOf p).usedValue
  spoilPieces : (s.fundsOf p).spoilPieces + s.outstandingPieces p ≤ (s.fundsOf p).usedPieces

/-- The Owed Frame of a Port against its Run (R65, R75, R81): a RUNOK is owed for an ACTIVE Run with
nothing granted, a HALT for a CANCELLING Run, and a RUNEND once the Run is closed. -/
def State.OwedSound (s : State) (p : Port) : Prop :=
  match (s.mlu p).owed, s.runOf p with
  | none, _ => True
  | some (.runok id edition charge block), some r =>
    r.state = .active ∧ r.granted = 0 ∧ id = r.id ∧ edition = r.edition ∧ charge = r.charge ∧
      block = min r.block r.pieces
  | some (.halt id), some r => r.state = .cancelling ∧ id = r.id
  | some (.runend _ _ _ _), none => True
  | some _, _ => False

/-- The Waiting Run Queue holds exactly the Ports whose Run is WAITING, each once (R57). -/
structure State.QueueSound (s : State) : Prop where
  nodup : s.ret.queue.Nodup
  waiting : ∀ p, p ∈ s.ret.queue ↔ ∃ r, s.runOf p = some r ∧ r.state = .waiting

/-- The accounts: the balance and the laws its movements rest on. -/
structure State.Accounts (s : State) : Prop where
  balanced : s.Balanced
  ports : ∀ p, s.PortSound p
  owed : ∀ p, s.OwedSound p
  queue : s.QueueSound

/-- While Runs wait, the Credit Pool is less than the amount the head Run needs to draw (R10). -/
def State.HeadUnservable (s : State) : Prop :=
  ∀ p rest, s.ret.queue = p :: rest → ∀ r, s.runOf p = some r →
    (s.fundsOf p).available + s.ret.pool < r.total

/-- The ranges of the branch figures (R1 to R3, R97). -/
structure State.InRange (s : State) : Prop where
  pool : s.ret.pool ≤ Config.balanceMax
  credited : s.ret.credited ≤ Config.lifetimeMax
  withdrawn : s.ret.withdrawn ≤ Config.lifetimeMax
  surplus : s.ret.surplus ≤ Config.lifetimeMax
  shortage : s.ret.shortage ≤ Config.lifetimeMax
  lastOrder : s.ret.lastOrder ≤ Config.orderNumberMax
  logCount : s.ret.logCount ≤ Config.logCountMax
  log : s.ret.log.length ≤ Config.logMax

/-- What a Stock Line satisfies (R85). Sold Pieces is at most Sold Value, because every denomination is at
least 1, and so within a lifetime total (R92). -/
structure StockLine.Sound (l : StockLine) : Prop where
  onHand : l.onHand ≤ 9999
  soldPieces : l.soldPieces ≤ l.soldValue
  soldValue : l.soldValue ≤ Config.lifetimeMax
  defined : l.state ≠ .undefinedLine → l.form.isSome ∧ ∃ d, l.denomination = some d ∧ 1 ≤ d ∧ d ≤ 9999
  absent : l.state = .undefinedLine → l = StockLine.initial

/-- A Run Record exists only on a Port whose state is READY (R57). -/
def State.RunsOnReady (s : State) : Prop :=
  ∀ p, (s.runOf p).isSome = true → (s.record p).state = .ready

/-- In LOCKED every retained value is as the blocks take it there (R167). -/
def State.LockedSound (s : State) : Prop := s.lockMark = true → s.ret = Retained.locked

/-- A band holds weights from 1 to 20,000 with its lower at or below its upper, and a rate of at most
999,999 (R33). -/
def Band.Sound (b : Band) : Prop :=
  1 ≤ b.lower ∧ b.lower ≤ b.upper ∧ b.upper ≤ weightMax ∧ b.rate ≤ 999999

/-- A tier's minimum is 2 to 9,999 and its discount at most 500 per mille (R33). -/
def Tier.Sound (t : Tier) : Prop := 2 ≤ t.minimum ∧ t.minimum ≤ 9999 ∧ t.perMille ≤ 500

/-- The ranges of the contents of a Rate Table (R33). -/
structure RateTable.Sound (t : RateTable) : Prop where
  edition : t.edition ≤ 9999
  bands : ∀ c k b, (t.bands.get c).get k = some b → b.Sound
  surcharges : ∀ l a, t.surcharges.get l = some a → a ≤ 99999
  tiers : ∀ k u, t.tiers.get k = some u → u.Sound

/-- The two Rate Tables (R33, R34): their ranges, an unnumbered CURRENT is empty, a numbered one holds a
band, and NEXT never bears CURRENT's Edition unless that is 0. -/
structure State.TablesSound (s : State) : Prop where
  current : s.ret.current.Sound
  next : s.ret.next.Sound
  unnumbered : s.ret.current.edition = 0 → s.ret.current = RateTable.empty
  numbered : s.ret.current.edition ≠ 0 → s.ret.current.hasBand = true
  differ : s.ret.current.edition ≠ 0 → s.ret.next.edition ≠ s.ret.current.edition

/-- The terms of a Profile (R111, R113). -/
structure Profile.Sound (q : Profile) : Prop where
  classes : q.classes ≠ []
  level : q.level = 1 ∨ q.level = 2
  maxRun : 1 ≤ q.maxRun ∧ q.maxRun ≤ 9999
  block : 1 ≤ q.block ∧ q.block ≤ 25

/-- The Offer in NORMAL and the Profiles (R104, R106, R111): a Profile is held on READY Ports alone. -/
structure State.ProfilesSound (s : State) : Prop where
  offer : s.lockMark = false →
    (1 ≤ s.ret.offer.maxRun ∧ s.ret.offer.maxRun ≤ 9999) ∧
      (1 ≤ s.ret.offer.block ∧ s.ret.offer.block ≤ 25)
  ready : ∀ p, (s.record p).state = .ready ↔ (s.record p).profile.isSome = true
  sound : ∀ p q, (s.record p).profile = some q → q.Sound

/-- The levels and limits of a Port in NORMAL (R17). -/
structure PortFunds.LevelsSound (f : PortFunds) : Prop where
  order : f.lowMark ≤ f.target
  target : f.target ≤ levelMax
  runLimit : 1 ≤ f.runLimit ∧ f.runLimit ≤ Config.balanceMax
  silenceLimit : 5 ≤ f.silenceLimit ∧ f.silenceLimit ≤ 300
  waitLimit : 10 ≤ f.waitLimit ∧ f.waitLimit ≤ 600

/-- The bounds of the queues and buffers (R137, R147, R160). -/
structure State.BuffersBounded (s : State) : Prop where
  notices : s.notices.length ≤ Config.noticeMax
  hold : s.host.hold.length ≤ Config.holdMax
  inputs : ∀ p, (s.mlu p).inputs.length ≤ Config.inputMax

/-- The line-up flag of a Port against its state (R104, R117, R119): an ABSENT Port's line is down, and
an attached Port's is up. -/
def State.LinesSound (s : State) : Prop :=
  ∀ p, ((s.record p).state = .absent → (s.mlu p).lineUp = false) ∧
    ((s.record p).state.attached = true → (s.mlu p).lineUp = true)

end Sys2Proof.Machine
end

