-- ==== Sys2Proof/Certificates/Slice0/Obligations.lean ====
section
/-! DEFINITION. The statements for the provers. Each says what the part does when a command is taken, with
the whole next state written out, or a law that every step keeps. A field is given by its characters and
by the value that the rules of its form read from them; figures stand as the manual writes them.

`HostReady` and `MeterFree` are the conditions under which a request or a record that arrives is taken at
once. Where they fail it waits, or is lost (RequestWaitsOrIsLost, MeterFramesReceived). -/

open Sys2Proof Sys2Proof.Machine

/-! ### The machine as a whole -/

/-- A step carries out the command at the front of the queue with the queue's rest. On an empty queue the
part idles, which is the model's choice (log entry 6). -/
def Obligations.StepRunsFrontCommand : Prop :=
  (∀ (s : State) (c : Instr) (rest : List Instr), s.pending = c :: rest →
      step s = exec c { s with pending := rest }) ∧
    ∀ s : State, s.pending = [] → step s = .next s

/-- The state after reset satisfies every law below (the model's choice of that state is log entry 1). -/
def Obligations.ResetSatisfiesLaws : Prop :=
  State.reset.Accounts ∧ State.reset.HeadUnservable ∧ State.reset.RunsOnReady ∧
    State.reset.ProfilesSound ∧ State.reset.LinesSound ∧ State.reset.TablesSound ∧
    (∀ p, (State.reset.fundsOf p).LevelsSound) ∧ State.reset.InRange ∧
    (∀ i, (State.reset.stockLine i).Sound) ∧ State.reset.BuffersBounded ∧ State.reset.LockedSound

/-- Every command answers a next state in every state, and none touches the queue of commands. -/
def Obligations.CommandsNeverStop : Prop :=
  ∀ (c : Instr) (s : State), ∃ t, exec c s = .next t ∧ t.pending = s.pending

/-- A part that has stopped takes no event but the start-up at power return or at the release of the reset
input (R168, step 2). That a command it does not take leaves it as it is, is the model's choice (log
entry 2). -/
def Obligations.StoppedPartTakesNoEvent : Prop :=
  ∀ (c : Instr) (s : State), s.power = .stopped → (∀ pins failed, c ≠ .startUp pins failed) →
    exec c s = .next s

/-! ### Laws that every step keeps -/

/-- The balance, and with it the laws of the Runs, the Allotments, the Owed Frames and the queue that its
movements rest on. The premises are laws of their own (StockLinesStayInRange, LockedContentsStayZero). -/
def Obligations.AccountsBalanceAtEveryStep : Prop :=
  ∀ s t : State, step s = .next t → s.Accounts → (∀ i, (s.stockLine i).Sound) → s.LockedSound →
    t.Accounts

/-- While Runs wait, the Credit Pool is less than the amount the head Run needs to draw. -/
def Obligations.PoolNeverCoversWaitingHead : Prop :=
  ∀ s t : State, step s = .next t → s.Accounts → (∀ i, (s.stockLine i).Sound) → s.LockedSound →
    s.HeadUnservable → t.HeadUnservable

/-- A Run exists only on a READY Port; a Profile is held on READY Ports alone, and every Profile and the
Offer keep their terms; an ABSENT Port's line is down and an attached Port's is up. -/
def Obligations.RunsStayOnReadyPorts : Prop :=
  ∀ s t : State, step s = .next t → s.RunsOnReady ∧ s.ProfilesSound ∧ s.LinesSound →
    t.RunsOnReady ∧ t.ProfilesSound ∧ t.LinesSound

/-- Both Rate Tables keep their ranges, CURRENT is unnumbered only when it is empty and holds a band when
it is numbered, and NEXT never bears CURRENT's Edition. -/
def Obligations.RateTablesStaySound : Prop :=
  ∀ s t : State, step s = .next t → s.TablesSound → t.TablesSound

/-- In NORMAL every Port's levels and limits stay in their ranges, the Low Mark at or below the Target. -/
def Obligations.AllotmentLevelsStayInRange : Prop :=
  ∀ s t : State, step s = .next t →
    (s.lockMark = false → ∀ p, (s.fundsOf p).LevelsSound) →
      (t.lockMark = false → ∀ p, (t.fundsOf p).LevelsSound)

/-- The Credit Pool, the four totals, the Last Order Number and the Discrepancy Log stay in their
ranges. -/
def Obligations.BranchFiguresStayInRange : Prop :=
  ∀ s t : State, step s = .next t → s.InRange → t.InRange

/-- Every Stock Line keeps its ranges, and an UNDEFINED line holds nothing. -/
def Obligations.StockLinesStayInRange : Prop :=
  ∀ s t : State, step s = .next t → (∀ i, (s.stockLine i).Sound) → ∀ i, (t.stockLine i).Sound

/-- The Notice Queue, the Host Input Hold and the Input Queues keep their bounds. -/
def Obligations.QueuesStayBounded : Prop :=
  ∀ s t : State, step s = .next t → s.BuffersBounded → t.BuffersBounded

/-- No event changes a retained value in LOCKED, where each is taken as zero, empty or absent. -/
def Obligations.LockedContentsStayZero : Prop :=
  ∀ s t : State, step s = .next t → s.LockedSound → t.LockedSound

/-- While the device state stays as it is, no lifetime total and no Last Order Number falls. -/
def Obligations.LifetimeTotalsNeverFall : Prop :=
  ∀ s t : State, step s = .next t → t.lockMark = s.lockMark →
    s.ret.credited ≤ t.ret.credited ∧ s.ret.withdrawn ≤ t.ret.withdrawn ∧
      s.ret.surplus ≤ t.ret.surplus ∧ s.ret.shortage ≤ t.ret.shortage ∧
      s.ret.lastOrder ≤ t.ret.lastOrder

/-! ### Frames and figures -/

/-- A receiver in READY that hears a frame laid out for its line, character by character, ends it COMPLETE
with the verb and the fields that were laid out, and is in READY again. -/
def Obligations.LaidFrameIsHeardBack : Prop :=
  ∀ (maxFrame : Nat) (verb : Text) (fields : List Text), receivable maxFrame verb fields = true →
    Receiver.hear maxFrame .ready (layFrame (joinFields verb fields)) =
      (.ready, [.complete ⟨verb, fields⟩])

/-- The characters of a request, received one after another on the host line, have the outcome of the
request's row, for a Host Line Unit that takes a request at once. -/
def Obligations.CharactersMakeRequest : Prop :=
  ∀ (i : Instr) (v : HostVerb) (fields : List Text) (s : State),
    hostRequest i = some (v, fields) → hostReceivable v fields = true → s.HostFree →
    s.host.rx = .ready →
      hearOnLine .host (layFrame (joinFields v.text fields)) s = exec i s

/-- A number that the part writes is read back as that number by a field that has room for its digits. -/
def Obligations.WrittenNumberIsReadBack : Prop :=
  ∀ (n most : Nat), 1 ≤ most → most ≤ 20 → n < 10 ^ most → readNumber most (decimal n) = some n

/-! ### The host line -/

/-- The checks of a request before its owning block's own: an unknown verb is answered UNKNOWN with the
verb's first twelve characters, in either device state; in LOCKED every verb but STATUS and REINIT is
refused LOCKED, its fields not examined; a wrong number of fields is refused FIELDS; and a first field that
must be a number, and is none or has too many digits, is refused FORMAT. Each refusal composes its reply and
changes nothing else. -/
def Obligations.RequestChecksBeforeBlock : Prop :=
  (∀ (s : State) (verb : Text) (fields : List Text), s.HostFree → verbOf verb = none →
      exec (.hostUnknownVerb verb fields) s = .next (s.reply (.unknown (verb.take 12)))) ∧
    ∀ (i : Instr) (v : HostVerb) (fields : List Text) (s : State),
      hostRequest i = some (v, fields) → s.HostFree →
        (s.lockMark = true → v ≠ .status → v ≠ .reinit → exec i s = s.refusal v .locked 0) ∧
          (s.lockMark = false ∨ v = .status ∨ v = .reinit → fields.length ≠ v.fieldCount →
            exec i s = s.refusal v .fields 0) ∧
          ∀ digits, s.lockMark = false → fields.length = v.fieldCount →
            v.firstDigits = some digits → readNumber digits (fieldAt fields 1) = none →
            exec i s = s.refusal v .format 1

/-- Every request taken gets one reply of the form OK, ADJ or NO, and a request refused changes nothing
but the slot its reply is composed into. -/
def Obligations.RepliesAreOkAdjOrNo : Prop :=
  ∀ (i : Instr) (v : HostVerb) (fields : List Text) (s : State),
    hostRequest i = some (v, fields) → s.HostFree →
      (∃ w pos extra, exec i s = .next (s.reply (.no v w pos extra))) ∨
        (∃ (t : State) (figures : List Figure), exec i s = .next (t.reply (.ok v figures)) ∧ t.host.slots = s.host.slots) ∨
        ∃ (t : State) (pos : Nat) (figures : List Figure), 1 ≤ pos ∧ exec i s = .next (t.reply (.adj v pos figures)) ∧
          t.host.slots = s.host.slots

/-- With both slots full, or with a restart pending, a request that arrives waits at the tail of the Host
Input Hold; with two held it is discarded, and HOST-OVERRUN is latched. -/
def Obligations.RequestWaitsOrIsLost : Prop :=
  ∀ (i : Instr) (v : HostVerb) (fields : List Text) (s : State),
    hostRequest i = some (v, fields) → s.power = .running →
    s.host.slots.hasFree = false ∨ s.host.restartPending ≠ none →
      (s.host.hold.length < 2 →
        exec i s = .next { s with host :=
          { s.host with hold := s.host.hold ++ [⟨v.text, fields⟩] } }) ∧
        (2 ≤ s.host.hold.length →
          exec i s = .next { s with host := { s.host with overrun := true } })

/-- When the last character of a reply has gone its slot frees. The oldest held request is then taken; with
none held, or with a restart pending, none is. The flag that a reply has begun is the model's (log entry 9),
and so is the reading that the alternation of the slots goes on when the last reply held has gone (log
entry 8). -/
def Obligations.FreedHostSlotTakesHeldRequest : Prop :=
  ∀ (s : State) (r : HostReply), s.power = .running → s.host.slots.first = some r →
    (s.host.hold = [] → s.host.restartPending = none →
      exec .hostSlotFree s = .next { s with host :=
        { s.host with slots := s.host.slots.release, begun := false } }) ∧
      (∀ f rest, s.host.hold = f :: rest → s.host.slots.hasFree = false →
        s.host.restartPending = none →
        exec .hostSlotFree s = .next (({ s with host :=
          { s.host with slots := s.host.slots.release, begun := false, hold := rest } } : State).takeRequest
            f)) ∧
      (s.host.restartPending ≠ none → r.isRestart = false →
        exec .hostSlotFree s = .next { s with host :=
          { s.host with slots := s.host.slots.release, begun := false } })

/-- A break on the host line: the frame being collected is discarded, the hold is emptied, every reply that
has not begun is discarded, and HOST-FRAME-ERROR is latched. A reply that has begun stays. When both slots
are emptied the next reply goes into slot A, and when one is, into that one (how the slots are held: log
entry 8). What says that a reply has begun is the model's own flag (log entry 9). -/
def Obligations.HostBreakDiscardsUnsentReplies : Prop :=
  ∀ (s : State) (begun : Bool), s.power = .running → s.host.restartPending = none →
    exec (.hostBreak begun) s = .next { s with host := { s.host with
      rx := .idleWait
      hold := []
      slots :=
        match s.host.slots with
        | .empty n => .empty n
        | .one a r => if s.host.begun = true ∨ begun = true then .one a r else .empty a
        | .two a r _ => if s.host.begun = true ∨ begun = true then .one a r else .empty .A
      begun := (s.host.begun || begun) && s.host.slots.first.isSome
      frameError := true } }

/-- A host frame whose close marker arrives in its place with agreeing check digits is a request, and is
taken. A host frame that ends faulty latches HOST-FRAME-ERROR, and is answered FRAME when a slot is free
and no restart is pending. -/
def Obligations.HostFrameEnds : Prop :=
  (∀ (s : State) (body : Text), s.HostFree → s.host.rx = .collect body false →
      awaitsClose body = true → checkAgrees body = true →
      exec .hostFrameComplete s = .next (({ s with host := { s.host with rx := .ready } } :
        State).takeRequest (frameOf (bodyContent body)))) ∧
    ∀ (s : State) (body : Text) (atSpace : Bool) (reason : FaultReason), s.power = .running →
      s.host.rx = .collect body atSpace → reason ≠ .parity → reason ≠ .lineBreak →
      exec (.hostFrameError reason) s =
        .next (if s.host.slots.hasFree = true ∧ s.host.restartPending = none then
            ({ s with host := { s.host with rx := .idleWait, frameError := true } } : State).reply
              (.frame reason)
          else { s with host := { s.host with rx := .idleWait, frameError := true } })

/-- The idle gap brings a receiver from IDLE-WAIT to READY. In COLLECT the intercharacter limit ends the
frame GAP and the message limit ends it TOOSLOW: on a meter line LINE-ERROR is latched with the reason; on
the host line HOST-FRAME-ERROR is latched, and the frame is answered FRAME with the reason when a slot is
free and no restart is pending. -/
def Obligations.ReceiverTimers : Prop :=
  (∀ s : State, s.power = .running → s.host.rx = .idleWait →
      exec (.idleGapElapsed .host) s = .next { s with host := { s.host with rx := .ready } }) ∧
    (∀ (s : State) (body : Text) (atSpace : Bool), s.power = .running →
      s.host.rx = .collect body atSpace → s.host.slots.hasFree = false →
      exec (.intercharacterLimitExpiry .host) s =
          .next { s with host := { s.host with rx := .idleWait, frameError := true } } ∧
        exec (.messageLimitExpiry .host) s =
          .next { s with host := { s.host with rx := .idleWait, frameError := true } }) ∧
    (∀ (s : State) (body : Text) (atSpace : Bool), s.power = .running →
      s.host.rx = .collect body atSpace → s.host.slots.hasFree = true →
      let ended : State := { s with host := { s.host with rx := .idleWait, frameError := true } }
      (s.host.restartPending = none →
        exec (.intercharacterLimitExpiry .host) s = .next (ended.reply (.frame .gap)) ∧
          exec (.messageLimitExpiry .host) s = .next (ended.reply (.frame .tooslow))) ∧
      (s.host.restartPending ≠ none →
        exec (.intercharacterLimitExpiry .host) s = .next ended ∧
          exec (.messageLimitExpiry .host) s = .next ended)) ∧
    (∀ (s : State) (p : Port), s.power = .running → (s.record p).state.attached = true →
      (s.mlu p).rx = .idleWait →
      exec (.idleGapElapsed (.meter p)) s = .next (s.setMlu p { s.mlu p with rx := .ready })) ∧
    ∀ (s : State) (p : Port) (body : Text) (atSpace : Bool), s.power = .running →
      (s.record p).state.attached = true → (s.mlu p).rx = .collect body atSpace →
      exec (.intercharacterLimitExpiry (.meter p)) s =
          .next ((s.setMlu p { s.mlu p with rx := .idleWait }).setRecord p { s.record p with
            latched := { (s.record p).latched with lineError := true }, lastError := some .gap }) ∧
        exec (.messageLimitExpiry (.meter p)) s =
          .next ((s.setMlu p { s.mlu p with rx := .idleWait }).setRecord p { s.record p with
            latched := { (s.record p).latched with lineError := true }, lastError := some .tooslow })

/-- A character received. What the receiver makes of it, in each of its states: passed over in IDLE-WAIT;
in READY a clean open marker begins a frame and any other character leads to IDLE-WAIT; in COLLECT it
continues the frame, or ends it BADCHAR, OVERLENGTH, CHECK, PARITY or FRAMING, or begins a possible break,
after which any character shows that the frame ended FRAMING (log entry 16). On the host line a frame that
ends is taken or answered FRAME, on a meter line it is taken or latches LINE-ERROR. A clean flow character
changes nothing on the host line, and on a meter line is a HOLD or GO of the meter. That a flow character
due has gone when the meter's next character comes, that a host character has no parity error, and that a
looped Port hears only its own ECHO frame, are the model's readings (log entries 13, 23 and 39), and so is
that a character that does not continue the frame ends it BADCHAR, not OVERLENGTH, also where it is the
character of the maximum length (log entry 14). -/
def Obligations.CharactersReceived : Prop :=
  (∀ (s : State) (c : Chr) (e : CharError), s.power = .running → s.host.rx = .idleWait →
      exec (.characterReceived .host c e) s = .next s) ∧
    (∀ s : State, s.power = .running → s.host.rx = .ready →
      exec (.characterReceived .host 0x7B .clean) s =
        .next { s with host := { s.host with rx := .collect [] false } }) ∧
    (∀ (s : State) (c : Chr) (e : CharError), s.power = .running → s.host.rx = .ready →
      c ≠ 0x7B → c ≠ 0x0E → c ≠ 0x0F →
      exec (.characterReceived .host c e) s =
        .next { s with host := { s.host with rx := .idleWait } }) ∧
    (∀ (s : State) (body : Text) (c : Chr), s.power = .running → s.host.rx = .collect body false →
      continues body c = true → body.length + 2 < 240 →
      exec (.characterReceived .host c .clean) s =
        .next { s with host := { s.host with rx := .collect (body ++ [c]) false } }) ∧
    (∀ (s : State) (p : Port) (body : Text) (c : Chr), s.power = .running →
      (s.record p).state.attached = true → (s.mlu p).rx = .collect body false →
      continues body c = true → body.length + 2 < 80 →
      exec (.characterReceived (.meter p) c .clean) s =
        .next (s.setMlu p { s.mlu p with
          rx := .collect (body ++ [c]) false
          flowWaiting := (s.mlu p).flowWaiting && (s.mlu p).drivingBreak })) ∧
    (∀ (s : State) (p : Port) (body : Text) (c : Chr), s.power = .running →
      (s.record p).state.attached = true → (s.mlu p).rx = .collect body false →
      exec (.characterReceived (.meter p) c .parity) s =
        .next ((s.setMlu p { s.mlu p with
            rx := .idleWait
            flowWaiting := (s.mlu p).flowWaiting && (s.mlu p).drivingBreak }).setRecord p { s.record p with
          latched := { (s.record p).latched with lineError := true }, lastError := some .parity })) ∧
    (∀ (s : State) (f : Flow), s.power = .running → (∀ body, s.host.rx ≠ .collect body true) →
      exec (.hostFlowCharacter f) s = .next s) ∧
    -- the receiver, with a maximum frame of `m` characters
    (∀ (m : Nat) (body : Text) (c : Chr) (e : CharError),
      Receiver.receive m c e .idleWait = (.idleWait, none) ∧
        Receiver.receive m 0x7B .clean .ready = (.collect [] false, none) ∧
        (c ≠ 0x7B ∨ e ≠ .clean → Receiver.receive m c e .ready = (.idleWait, none)) ∧
        (continues body c = true → body.length + 2 < m →
          Receiver.receive m c .clean (.collect body false) = (.collect (body ++ [c]) false, none)) ∧
        (continues body c = true → m ≤ body.length + 2 →
          Receiver.receive m c .clean (.collect body false) = (.idleWait, some (.fault .overlength))) ∧
        (continues body c = false → c ≠ 0x7D ∨ awaitsClose body = false →
          Receiver.receive m c .clean (.collect body false) = (.idleWait, some (.fault .badchar))) ∧
        (awaitsClose body = true → checkAgrees body = false →
          Receiver.receive m 0x7D .clean (.collect body false) = (.idleWait, some (.fault .check))) ∧
        (awaitsClose body = true → checkAgrees body = true →
          Receiver.receive m 0x7D .clean (.collect body false) =
            (.ready, some (.complete (frameOf (bodyContent body))))) ∧
        Receiver.receive m c .parity (.collect body false) = (.idleWait, some (.fault .parity)) ∧
        (c ≠ 0 → Receiver.receive m c .stopBit (.collect body false) =
          (.idleWait, some (.fault .framing))) ∧
        Receiver.receive m 0 .stopBit (.collect body false) = (.collect body true, none) ∧
        Receiver.receive m c e (.collect body true) = (.idleWait, some (.fault .framing)) ∧
        Receiver.flow (.collect body true) = (.idleWait, some (.fault .framing))) ∧
    -- its effect on the host line, which has no parity bit (log entry 23)
    (∀ (s : State) (c : Chr) (e : CharError), s.power = .running →
      e = .stopBit ∨ (c ≠ 0x0E ∧ c ≠ 0x0F) →
      let heard := Receiver.receive 240 c (if e = .parity then .clean else e) s.host.rx
      (heard.2 = none → exec (.characterReceived .host c e) s =
        .next { s with host := { s.host with rx := heard.1 } }) ∧
      (∀ f, heard.2 = some (.complete f) → s.HostFree → exec (.characterReceived .host c e) s =
        .next (({ s with host := { s.host with rx := heard.1 } } : State).takeRequest f)) ∧
      ∀ reason, heard.2 = some (.fault reason) → exec (.characterReceived .host c e) s =
        let ended : State := { s with host := { s.host with rx := heard.1, frameError := true } }
        .next (if s.host.slots.hasFree = true ∧ s.host.restartPending = none then
          ended.reply (.frame reason) else ended)) ∧
    -- its effect on a meter line
    (∀ (s : State) (p : Port) (c : Chr) (e : CharError), s.power = .running →
      (s.record p).state.attached = true → e ≠ .clean ∨ (c ≠ 0x0E ∧ c ≠ 0x0F) →
      let heard := Receiver.receive 80 c e (s.mlu p).rx
      let t := s.setMlu p { s.mlu p with
        rx := heard.1, flowWaiting := (s.mlu p).flowWaiting && (s.mlu p).drivingBreak }
      (heard.2 = none → exec (.characterReceived (.meter p) c e) s = .next t) ∧
      (∀ f, heard.2 = some (.complete f) → s.MeterFree p → exec (.characterReceived (.meter p) c e) s =
        .next ((route p f t).1.compose p (route p f t).2)) ∧
      ∀ reason, heard.2 = some (.fault reason) → exec (.characterReceived (.meter p) c e) s =
        .next (t.setRecord p { s.record p with
          latched := { (s.record p).latched with lineError := true }, lastError := some reason })) ∧
    -- flow characters received cleanly, and the external line of a looped Port
    ∀ (s : State) (p : Port), s.power = .running →
      exec (.characterReceived (.meter p) 0x0E .clean) s = exec (.hold p) s ∧
        exec (.characterReceived (.meter p) 0x0F .clean) s = exec (.go p) s ∧
        ((s.record p).state = .loopback →
          ((s.mlu p).slots.first = none ∧ (s.mlu p).sentEcho = none) ∨
            ((s.mlu p).rx = .ready ∧ (s.mlu p).testInFlight = false) →
          ∀ c e, exec (.characterReceived (.meter p) c e) s = .next s)

/-! ### Orders and Allotments -/

/-- REFILL: the checks of its number and amount in order, and, when they pass, the credit, the ORDER Notice
with the pool as it then stands, the pool-increase pass, and the reply with the pool the pass leaves. -/
def Obligations.RefillCreditsPoolAndRunsPass : Prop :=
  ∀ (s : State) (fo fa : Text) (order amount : Nat), s.HostReady →
    readNumber 6 fo = some order → readNumber 8 fa = some amount →
    exec (.refill [fo, fa]) s =
      if s.ret.lastOrder = 999999 then s.refusal .refill .exhausted 0
      else if order ≤ s.ret.lastOrder then
        .next (s.reply (.no .refill .duplicate 1 (some s.ret.lastOrder)))
      else if s.ret.lastOrder + 1 < order then
        .next (s.reply (.no .refill .gap 1 (some s.ret.lastOrder)))
      else if amount < 1 ∨ 9999999 < amount then s.refusal .refill .range 2
      else if 99999999 < s.ret.pool + amount then s.refusal .refill .poolfull 2
      else if 999999999999 < s.ret.credited + amount then s.refusal .refill .full 2
      else
        let credited : State := { s with ret := { s.ret with
          pool := s.ret.pool + amount, credited := s.ret.credited + amount, lastOrder := order } }
        let t := (credited.post (.order .refill none order amount none (s.ret.pool + amount))).pass
        .next (t.reply (.ok .refill [.num order, .num t.ret.pool]))

/-- WITHDRAW: the checks of its number, its amount, the queue, the pool and the total in order, and, when
they pass, the debit and the ORDER Notice; no pass runs. -/
def Obligations.WithdrawDebitsPool : Prop :=
  ∀ (s : State) (fo fa : Text) (order amount : Nat), s.HostReady →
    readNumber 6 fo = some order → readNumber 8 fa = some amount →
    exec (.withdraw [fo, fa]) s =
      if s.ret.lastOrder = 999999 then s.refusal .withdraw .exhausted 0
      else if order ≤ s.ret.lastOrder then
        .next (s.reply (.no .withdraw .duplicate 1 (some s.ret.lastOrder)))
      else if s.ret.lastOrder + 1 < order then
        .next (s.reply (.no .withdraw .gap 1 (some s.ret.lastOrder)))
      else if amount < 1 ∨ 9999999 < amount then s.refusal .withdraw .range 2
      else if s.ret.queue ≠ [] then s.refusal .withdraw .queued 0
      else if s.ret.pool < amount then s.refusal .withdraw .short 2
      else if 999999999999 < s.ret.withdrawn + amount then s.refusal .withdraw .full 2
      else
        let debited : State := { s with ret := { s.ret with
          pool := s.ret.pool - amount, withdrawn := s.ret.withdrawn + amount, lastOrder := order } }
        .next ((debited.post (.order .withdraw none order amount none (s.ret.pool - amount))).reply
          (.ok .withdraw [.num order, .num (s.ret.pool - amount)]))

/-- SPOILREF: after the number checks the port, the pieces and the amount in order, and, when the checks
pass, the Port's spoiled figures fall, the pool is credited, ORDER is posted and the pass runs. -/
def Obligations.SpoilrefRefundsAndRunsPass : Prop :=
  ∀ (s : State) (fo fp fn fa : Text) (order port pieces amount : Nat), s.HostReady →
    readNumber 6 fo = some order → readNumber 1 fp = some port → readNumber 13 fn = some pieces →
    readNumber 8 fa = some amount →
    exec (.spoilref [fo, fp, fn, fa]) s =
      if s.ret.lastOrder = 999999 then s.refusal .spoilref .exhausted 0
      else if order ≤ s.ret.lastOrder then
        .next (s.reply (.no .spoilref .duplicate 1 (some s.ret.lastOrder)))
      else if s.ret.lastOrder + 1 < order then
        .next (s.reply (.no .spoilref .gap 1 (some s.ret.lastOrder)))
      else match portOf port with
      | none => s.refusal .spoilref .range 2
      | some p =>
        if pieces < 1 ∨ 999999999999 < pieces then s.refusal .spoilref .range 3
        else if amount < 1 ∨ 9999999 < amount then s.refusal .spoilref .range 4
        else if (s.fundsOf p).spoilPieces < pieces then s.refusal .spoilref .excess 3
        else if (s.fundsOf p).spoilValue < amount then s.refusal .spoilref .excess 4
        else if 99999999 < s.ret.pool + amount then s.refusal .spoilref .poolfull 4
        else if 999999999999 < s.ret.credited + amount then s.refusal .spoilref .full 4
        else
          let credited : State := { s with ret := { s.ret with
            pool := s.ret.pool + amount, credited := s.ret.credited + amount, lastOrder := order
            funds := s.ret.funds.set p { s.fundsOf p with
              spoilPieces := (s.fundsOf p).spoilPieces - pieces
              spoilValue := (s.fundsOf p).spoilValue - amount } } }
          let t := (credited.post
            (.order .spoilref (some p) order amount (some pieces) (s.ret.pool + amount))).pass
          .next (t.reply (.ok .spoilref [.num order, .num t.ret.pool]))

/-- RECALL: an amount given as 0, more than Available, or more than the pool has room for is refused;
otherwise the amount, or the whole of Available, moves to the pool, the Short flag clears and the pass
runs. -/
def Obligations.RecallMovesAvailableToPool : Prop :=
  ∀ (s : State) (fp fa : Text) (port : Nat) (given : Option Nat), s.HostReady →
    readNumber 1 fp = some port → readOptional 8 fa = some given →
    exec (.recall [fp, fa]) s =
      match portOf port with
      | none => s.refusal .recall .range 1
      | some p =>
        let amount := given.getD (s.fundsOf p).available
        if given = some 0 then s.refusal .recall .range 2
        else if (s.fundsOf p).available < amount then s.refusal .recall .short 2
        else if 99999999 < s.ret.pool + amount then s.refusal .recall .poolfull 2
        else
          let moved : State := { s with ret := { s.ret with
            pool := s.ret.pool + amount
            funds := s.ret.funds.set p { s.fundsOf p with
              available := (s.fundsOf p).available - amount, short := false } } }
          let t := moved.pass
          .next (t.reply (.ok .recall
            [.num amount, .num (t.fundsOf p).available, .num t.ret.pool]))

/-- LEVELS: both levels are clamped, the Target is raised to the Low Mark, the low-mark check follows, and
the reply is ADJ with the first field clamped or raised. The check itself has five outcomes, by where
Available stands, whether Runs wait, and whether the pool covers what is wanted. -/
def Obligations.LevelsStoredAndChecked : Prop :=
  (∀ (s : State) (fp fl ft : Text) (port : Nat) (low? target? : Option Nat), s.HostReady →
      readNumber 1 fp = some port → readOptional 8 fl = some low? → readOptional 8 ft = some target? →
      exec (.levels [fp, fl, ft]) s =
        match portOf port with
        | none => s.refusal .levels .range 1
        | some p =>
          let low0 := low?.getD (s.fundsOf p).lowMark
          let target0 := target?.getD (s.fundsOf p).target
          let low := min low0 9999999
          let target := max low (min target0 9999999)
          let t := (s.setFunds p { s.fundsOf p with lowMark := low, target := target }).lowMarkCheck p
          let figures : List Figure := [.num low, .num target, .num (t.fundsOf p).available,
            .num (if (t.fundsOf p).short then 1 else 0)]
          .next (t.reply (if low ≠ low0 then .adj .levels 2 figures
            else if target ≠ target0 then .adj .levels 3 figures
            else .ok .levels figures))) ∧
    ∀ (s : State) (p : Port),
      let f := s.fundsOf p
      let wanted := min (f.target - f.available) (99999999 - s.holding p)
      (f.target ≤ f.available → s.lowMarkCheck p = s.setFunds p { f with short := false }) ∧
        (f.lowMark ≤ f.available → f.available < f.target → s.lowMarkCheck p = s) ∧
        (f.available < f.lowMark → f.available < f.target → s.ret.queue ≠ [] →
          s.lowMarkCheck p =
            if f.short then s
            else ((s.setFunds p { f with short := true }).latch p .shortDraw).post
              (.poolshort p .queued 0 f.available f.target s.ret.pool)) ∧
        (f.available < f.lowMark → f.available < f.target → s.ret.queue = [] → wanted ≤ s.ret.pool →
          s.lowMarkCheck p = (s.setPool (s.ret.pool - wanted)).setFunds p
            { f with available := f.available + wanted, short := false }) ∧
        (f.available < f.lowMark → f.available < f.target → s.ret.queue = [] → s.ret.pool < wanted →
          let drawn := (s.setPool 0).setFunds p
            { f with available := f.available + s.ret.pool, short := true }
          s.lowMarkCheck p =
            if f.short then drawn
            else (drawn.latch p .shortDraw).post
              (.poolshort p .pool s.ret.pool (f.available + s.ret.pool) f.target 0))

/-- LIMITS: each limit given is clamped into its range, an empty one stays as it is, and the reply is ADJ
with the first field clamped. -/
def Obligations.LimitsStored : Prop :=
  ∀ (s : State) (fp fr fs fw : Text) (port : Nat) (run? silence? wait? : Option Nat), s.HostReady →
    readNumber 1 fp = some port → readOptional 8 fr = some run? → readOptional 3 fs = some silence? →
    readOptional 3 fw = some wait? →
    exec (.limits [fp, fr, fs, fw]) s =
      match portOf port with
      | none => s.refusal .limits .range 1
      | some p =>
        let run := match run? with
          | none => (s.fundsOf p).runLimit
          | some n => max 1 (min n 99999999)
        let silence := match silence? with
          | none => (s.fundsOf p).silenceLimit
          | some n => max 5 (min n 300)
        let wait := match wait? with
          | none => (s.fundsOf p).waitLimit
          | some n => max 10 (min n 600)
        let t := s.setFunds p
          { s.fundsOf p with runLimit := run, silenceLimit := silence, waitLimit := wait }
        let figures : List Figure := [.num run, .num silence, .num wait]
        .next (t.reply (if run? ≠ none ∧ run? ≠ some run then .adj .limits 2 figures
          else if silence? ≠ none ∧ silence? ≠ some silence then .adj .limits 3 figures
          else if wait? ≠ none ∧ wait? ≠ some wait then .adj .limits 4 figures
          else .ok .limits figures))

/-- The pool-increase pass serves the queue from its head and passes over none: some first Runs of the
queue become ACTIVE, the others keep their places and are untouched, the head that is left cannot be
served, and once no Run waits a Port is left short only with the pool at 0. Written out: a head that can be
served is reserved, leaves the queue, is ACTIVE with its silence timer started, has its low-mark check and
its RUNOK, and the pass goes on; a head that cannot be stops it; with no Run waiting the Ports are visited
in port order, and a visit to a short Port draws what it wants, or all of the pool. -/
def Obligations.PassServesQueueInOrder : Prop :=
  (∀ s : State, s.Accounts → ∃ k, s.pass.ret.queue = s.ret.queue.drop k ∧
    (∀ p ∈ s.ret.queue.take k, ∃ r, s.pass.runOf p = some r ∧ r.state = .active) ∧
    (∀ p, p ∉ s.ret.queue.take k → s.pass.runOf p = s.runOf p) ∧
    s.pass.HeadUnservable ∧ s.pass.ret.pool ≤ s.ret.pool ∧
    (s.pass.ret.queue = [] → ∀ p, (s.pass.fundsOf p).short = true → s.pass.ret.pool = 0)) ∧
    (∀ (s : State) (p : Port) (rest : List Port) (r : Run), s.ret.queue = p :: rest →
      s.runOf p = some r →
      (r.total ≤ (s.fundsOf p).available + s.ret.pool →
        s.pass = ((((((s.reserve p r.total).setQueue rest).setRun p (some { r with
            state := .active
            waitDeadline := none
            silenceDeadline := some (s.fundsOf p).silenceLimit })).lowMarkCheck p).sendUnasked p
          (.runok r.id r.edition r.charge (min r.block r.pieces))).pass)) ∧
      ((s.fundsOf p).available + s.ret.pool < r.total → s.pass = s)) ∧
    (∀ s : State, s.ret.queue = [] →
      s.pass = (((((s.topUp 0).topUp 1).topUp 2).topUp 3).topUp 4).topUp 5) ∧
    ∀ (s : State) (p : Port),
      let f := s.fundsOf p
      let wanted := min (f.target - f.available) (99999999 - s.holding p)
      (f.short = false → s.topUp p = s) ∧
        (f.short = true → f.target ≤ f.available → s.topUp p = s.setFunds p { f with short := false }) ∧
        (f.short = true → f.available < f.target → wanted ≤ s.ret.pool →
          s.topUp p = (s.setPool (s.ret.pool - wanted)).setFunds p
            { f with available := f.available + wanted, short := false }) ∧
        (f.short = true → f.available < f.target → s.ret.pool < wanted →
          s.topUp p = (s.setPool 0).setFunds p { f with available := f.available + s.ret.pool })

/-! ### Rates -/

/-- BAND on a class 1 to 8 and a slot 1 to 10: with its lower field present it stores the band, clamped,
and refuses a missing upper or rate and a rate out of range; with its lower field empty it empties the
slot. Every other slot and class is unchanged. A class or a slot out of range is refused. -/
def Obligations.BandStoredOrRemoved : Prop :=
  (∀ (s : State) (fc fk fl fu fr : Text) (c : Fin 8) (k : Fin 10) (lower0 : Nat)
      (upper? rate? : Option Nat), s.HostReady →
      readNumber 1 fc = some (c.val + 1) → readNumber 2 fk = some (k.val + 1) →
      readNumber 6 fl = some lower0 → readOptional 6 fu = some upper? → readOptional 7 fr = some rate? →
      exec (.band [fc, fk, fl, fu, fr]) s =
        match upper?, rate? with
        | none, _ => s.refusal .band .format 4
        | some _, none => s.refusal .band .format 5
        | some upper0, some rate =>
          if 999999 < rate then s.refusal .band .range 5
          else
            let lower := max 1 (min lower0 20000)
            let upper := max lower (max 1 (min upper0 20000))
            let next := { s.ret.next with
              bands := s.ret.next.bands.set c ((s.ret.next.bands.get c).set k (some ⟨lower, upper, rate⟩)) }
            let figures : List Figure :=
              [.num (c.val + 1), .num (k.val + 1), .num lower, .num upper, .num rate]
            .next (({ s with ret := { s.ret with next := next } } : State).reply
              (if lower ≠ lower0 then .adj .band 3 figures
                else if upper ≠ upper0 then .adj .band 4 figures
                else .ok .band figures))) ∧
    (∀ (s : State) (fc fk fu fr : Text) (c : Fin 8) (k : Fin 10) (upper? rate? : Option Nat),
      s.HostReady → readNumber 1 fc = some (c.val + 1) → readNumber 2 fk = some (k.val + 1) →
      readOptional 6 fu = some upper? → readOptional 7 fr = some rate? →
      exec (.bandRemove [fc, fk, [], fu, fr]) s =
        .next (({ s with ret := { s.ret with next := { s.ret.next with
            bands := s.ret.next.bands.set c ((s.ret.next.bands.get c).set k none) } } } : State).reply
          (.ok .band [.num (c.val + 1), .num (k.val + 1), .text [], .text [], .text []]))) ∧
    ∀ (s : State) (fc fk fl fu fr : Text) (class_ slot : Nat) (lower? upper? rate? : Option Nat),
      s.HostReady → readNumber 1 fc = some class_ → readNumber 2 fk = some slot →
      readOptional 6 fl = some lower? → readOptional 6 fu = some upper? →
      readOptional 7 fr = some rate? →
      (class_ < 1 ∨ 8 < class_ → exec (.band [fc, fk, fl, fu, fr]) s = s.refusal .band .range 1) ∧
        (1 ≤ class_ ∧ class_ ≤ 8 → slot < 1 ∨ 10 < slot →
          exec (.band [fc, fk, fl, fu, fr]) s = s.refusal .band .range 2)

/-- SURCH sets or removes one surcharge of NEXT, and TIER one discount tier, the tier's figures clamped;
a letter, an amount or a tier slot out of range is refused. For a SURCH with a bad letter and an unreadable
amount the word refused first is the model's reading (log entry 7). -/
def Obligations.SurchargesAndTiersStored : Prop :=
  (∀ (s : State) (l : Letter) (fa : Text) (amount? : Option Nat), s.HostReady →
      readOptional 6 fa = some amount? →
      exec (.surch [[Letter.char l], fa]) s =
        if ∃ a, amount? = some a ∧ 99999 < a then s.refusal .surch .range 2
        else .next (({ s with ret := { s.ret with next := { s.ret.next with
            surcharges := s.ret.next.surcharges.set (Letter.index l) amount? } } } : State).reply
          (.ok .surch [.text [Letter.char l],
            match amount? with | some a => .num a | none => .text []]))) ∧
    (∀ (s : State) (fl fa : Text), s.HostReady → (∀ l, fl ≠ [Letter.char l]) →
      exec (.surch [fl, fa]) s =
        if fl = [] then s.refusal .surch .format 1 else s.refusal .surch .range 1) ∧
    (∀ (s : State) (fk fm fd : Text) (k : Fin 4) (min? perMille? : Option Nat), s.HostReady →
      readNumber 1 fk = some (k.val + 1) → readOptional 5 fm = some min? →
      readOptional 4 fd = some perMille? →
      exec (.tier [fk, fm, fd]) s =
        match min?, perMille? with
        | none, _ => .next (({ s with ret := { s.ret with next := { s.ret.next with
            tiers := s.ret.next.tiers.set k none } } } : State).reply
              (.ok .tier [.num (k.val + 1), .text [], .text []]))
        | some _, none => s.refusal .tier .format 3
        | some min0, some perMille0 =>
          let least := max 2 (min min0 9999)
          let perMille := min perMille0 500
          let figures : List Figure := [.num (k.val + 1), .num least, .num perMille]
          .next (({ s with ret := { s.ret with next := { s.ret.next with
              tiers := s.ret.next.tiers.set k (some ⟨least, perMille⟩) } } } : State).reply
            (if least ≠ min0 then .adj .tier 2 figures
              else if perMille ≠ perMille0 then .adj .tier 3 figures
              else .ok .tier figures))) ∧
    ∀ (s : State) (fk fm fd : Text) (slot : Nat) (min? perMille? : Option Nat), s.HostReady →
      readNumber 1 fk = some slot → readOptional 5 fm = some min? →
      readOptional 4 fd = some perMille? → slot < 1 ∨ 4 < slot →
      exec (.tier [fk, fm, fd]) s =
        if min? ≠ none ∧ perMille? = none then s.refusal .tier .format 3 else s.refusal .tier .range 1

/-- EDITION numbers NEXT, refusing a number out of range and the number CURRENT bears; CLEARNEXT empties
NEXT; neither touches anything else. ACTIVATE makes its checks in order, and, when they pass, NEXT becomes
CURRENT, NEXT becomes empty and RATESWITCH is posted with both Editions and the number of Runs. -/
def Obligations.NextNumberedClearedActivated : Prop :=
  (∀ (s : State) (f : Text), s.HostReady →
      exec (.edition [f]) s =
        match readNumber 5 f with
        | none => s.refusal .edition .format 1
        | some n =>
          if n < 1 ∨ 9999 < n then s.refusal .edition .range 1
          else if n = s.ret.current.edition then s.refusal .edition .same 1
          else .next (({ s with ret := { s.ret with next :=
            { s.ret.next with edition := n } } } : State).reply (.ok .edition [.num n]))) ∧
    (∀ s : State, s.HostReady →
      exec (.clearnext []) s =
        .next (({ s with ret := { s.ret with next := {
            edition := 0
            bands := Vector.replicate 8 (Vector.replicate 10 none)
            surcharges := Vector.replicate 6 none
            tiers := Vector.replicate 4 none } } } : State).reply (.ok .clearnext []))) ∧
    ∀ (s : State) (f : Text) (n : Nat), s.HostReady → readNumber 5 f = some n →
      exec (.activate [f]) s =
        if n < 1 ∨ 9999 < n then s.refusal .activate .range 1
        else if s.ret.next.edition = 0 then s.refusal .activate .noedition 0
        else if n ≠ s.ret.next.edition then
          .next (s.reply (.no .activate .mismatch 1 (some s.ret.next.edition)))
        else if ∀ c k, (s.ret.next.bands.get c).get k = none then s.refusal .activate .empty 0
        else
          let switched : State := { s with ret := { s.ret with
            current := s.ret.next, next := RateTable.empty } }
          .next ((switched.post (.rateswitch n s.ret.current.edition
              (s.ret.runs.toList.filter Option.isSome).length)).reply
            (.ok .activate [.num n, .num s.ret.current.edition]))

/-- Band lookup: NOCLASS for a class with no band; NOBAND for a weight below or above every band; the band
containing the weight with the smallest upper weight; and for a weight in a gap the band above with the
smallest lower weight. Ties go to the lowest slot. -/
def Obligations.BandLookupTakesNarrowestBand : Prop :=
  ∀ (t : RateTable) (c w : Nat),
    let bands := t.classBands c
    (bands = [] → bandLookup bands w = .error .noclass) ∧
      (bands ≠ [] → (∀ e ∈ bands, w < e.2.lower) ∨ (∀ e ∈ bands, e.2.upper < w) →
        bandLookup bands w = .error .noband) ∧
      ((∃ e ∈ bands, e.2.lower ≤ w ∧ w ≤ e.2.upper) →
        ∃ e ∈ bands, bandLookup bands w = .ok e ∧ e.2.lower ≤ w ∧ w ≤ e.2.upper ∧
          ∀ d ∈ bands, d.2.lower ≤ w → w ≤ d.2.upper →
            e.2.upper < d.2.upper ∨ (e.2.upper = d.2.upper ∧ e.1 ≤ d.1)) ∧
      ((∀ e ∈ bands, ¬(e.2.lower ≤ w ∧ w ≤ e.2.upper)) → (∃ e ∈ bands, e.2.lower ≤ w) →
        (∃ e ∈ bands, w ≤ e.2.upper) →
        ∃ e ∈ bands, bandLookup bands w = .ok e ∧ w < e.2.lower ∧
          ∀ d ∈ bands, w < d.2.lower →
            e.2.lower < d.2.lower ∨ (e.2.lower = d.2.lower ∧ e.1 ≤ d.1))

/-- QUOTE: the checks of the table, the class, the letters and the pieces in order, and then the Charge
Computation's own; bad letters are refused before the form of the pieces is read, and unreadable pieces
before the range of the class is judged (log entry 7). A quote changes nothing, and its figures satisfy the
price rules: the discounted base rounded half up, the surcharges added whole, and the total within a balance.
The tier is the one with the largest minimum at or below the pieces, the lowest slot among equals, or none.
The computation fails as the lookup does, and then NOSURCH for a letter absent in the table or no letter at
all, ZERO for a charge of 0 and OVERFLOW for a total above a balance. -/
def Obligations.QuoteComputesCharge : Prop :=
  (∀ (s : State) (ft fc fw fu fn : Text), s.HostReady → ft ≠ [] → ft ≠ word "CURRENT" →
      ft ≠ word "NEXT" → exec (.quote [ft, fc, fw, fu, fn]) s = s.refusal .quote .range 1) ∧
    (∀ (s : State) (name : TableName) (ft fc fw fu fn : Text) (c w n : Nat), s.HostReady →
      ft = (match name with | .current => word "CURRENT" | .next => word "NEXT") →
      readNumber 1 fc = some c → readNumber 5 fw = some w → readNumber 5 fn = some n →
      exec (.quote [ft, fc, fw, fu, fn]) s =
        if c < 1 ∨ 8 < c then s.refusal .quote .range 2
        else match readLetters fu with
        | none => s.refusal .quote .range 4
        | some letters =>
          if n < 1 ∨ 9999 < n then s.refusal .quote .range 5
          else match computeCharge
              (match name with | .current => s.ret.current | .next => s.ret.next) c w (some letters) n with
          | .error .noclass => s.refusal .quote .noclass 2
          | .error .noband => s.refusal .quote .noband 3
          | .error .nosurch => s.refusal .quote .nosurch 4
          | .error .zero => s.refusal .quote .zero 0
          | .error .overflow => s.refusal .quote .overflow 5
          | .ok r => .next (s.reply (.ok .quote
              [.num r.bandSlot, .num r.tierSlot, .num r.discounted, .num r.charge, .num r.total]))) ∧
    -- two faulty fields: the letters and the pieces, the class and the pieces
    (∀ (s : State) (name : TableName) (ft fc fw fu fn : Text) (c w : Nat), s.HostReady →
      ft = (match name with | .current => word "CURRENT" | .next => word "NEXT") →
      readNumber 1 fc = some c → readNumber 5 fw = some w →
      (readLetters fu = none → exec (.quote [ft, fc, fw, fu, fn]) s =
        if c < 1 ∨ 8 < c then s.refusal .quote .range 2 else s.refusal .quote .range 4) ∧
      ((readLetters fu).isSome = true → readNumber 5 fn = none →
        exec (.quote [ft, fc, fw, fu, fn]) s = s.refusal .quote .format 5)) ∧
    (∀ (t : RateTable) (n : Nat),
      let tiers := presentSlots t.tiers
      ((∀ e ∈ tiers, n < e.2.minimum) → t.tierFor n = (0, 0)) ∧
        ((∃ e ∈ tiers, e.2.minimum ≤ n) →
          ∃ e ∈ tiers, t.tierFor n = (e.1, e.2.perMille) ∧ e.2.minimum ≤ n ∧
            ∀ d ∈ tiers, d.2.minimum ≤ n →
              d.2.minimum < e.2.minimum ∨ (d.2.minimum = e.2.minimum ∧ e.1 ≤ d.1))) ∧
    (∀ (t : RateTable) (c w n : Nat) (letters? : Option (List Letter)) (x : ChargeFault),
      bandLookup (t.classBands c) w = .error x → computeCharge t c w letters? n = .error x) ∧
    (∀ (t : RateTable) (c w n slot : Nat) (b : Band),
      bandLookup (t.classBands c) w = .ok (slot, b) →
      computeCharge t c w none n = .error .nosurch ∧
        ∀ letters : List Letter,
          let charge := (b.rate * (1000 - (t.tierFor n).2) + 500) / 1000 +
            (letters.map fun l => (t.surcharges.get (Letter.index l)).getD 0).sum
          ((∃ l ∈ letters, t.surcharges.get (Letter.index l) = none) →
            computeCharge t c w (some letters) n = .error .nosurch) ∧
          ((∀ l ∈ letters, t.surcharges.get (Letter.index l) ≠ none) →
            (charge = 0 → computeCharge t c w (some letters) n = .error .zero) ∧
            (charge ≠ 0 → 99999999 < charge * n →
              computeCharge t c w (some letters) n = .error .overflow) ∧
            (charge ≠ 0 → charge * n ≤ 99999999 →
              ∃ r, computeCharge t c w (some letters) n = .ok r ∧ r.charge = charge ∧
                r.bandSlot = slot))) ∧
    ∀ (t : RateTable) (c w n : Nat) (letters : List Letter) (r : ChargeResult),
      computeCharge t c w (some letters) n = .ok r →
      ∃ b sum, bandLookup (t.classBands c) w = .ok (r.bandSlot, b) ∧ r.rate = b.rate ∧
        t.tierFor n = (r.tierSlot, r.perMille) ∧ t.surchargeSum letters = some sum ∧
        r.discounted = (r.rate * (1000 - r.perMille) + 500) / 1000 ∧
        r.charge = r.discounted + sum ∧ 1 ≤ r.charge ∧ r.total = r.charge * n ∧
        r.total ≤ 99999999 ∧ r.edition = t.edition

/-! ### Runs -/

/-- CANCEL: NORUN without a Run and STATE for a CANCELLING one; a WAITING Run closes CANCELLED and the pass
runs; a Run whose RUNOK is owed closes at once, its whole Reserved returned and the RUNEND owed in the
RUNOK's place; otherwise the Run becomes CANCELLING, with a HALT at level 2 and none at level 1. A record
sent unasked is composed when a slot is free and nothing is owed, and is otherwise owed in place of the one
owed; so is the RUNEND of a closure. -/
def Obligations.CancelByStateOfRun : Prop :=
  (∀ (s : State) (fp : Text) (port : Nat), s.HostReady → readNumber 1 fp = some port →
      exec (.cancel [fp]) s =
        match portOf port with
        | none => s.refusal .cancel .range 1
        | some p =>
          match s.runOf p with
          | none => s.refusal .cancel .norun 1
          | some r =>
            let cancelling := s.setRun p (some { r with state := .cancelling, cancelRequested := true })
            match r.state with
            | .cancelling => s.refusal .cancel .state 1
            | .waiting => .next (((s.closeUnasked p r .cancelled).pass).reply
                (.ok .cancel [.num r.id, .text (word "CLOSED")]))
            | .active =>
              if (s.mlu p).owed.any MeterFrame.isRunok then
                .next ((s.closeUnasked p r .cancelled).reply
                  (.ok .cancel [.num r.id, .text (word "CLOSED")]))
              else if r.level = 1 then
                .next (cancelling.reply (.ok .cancel [.num r.id, .text (word "CANCELLING")]))
              else
                .next ((cancelling.sendUnasked p (.halt r.id)).reply
                  (.ok .cancel [.num r.id, .text (word "CANCELLING")]))) ∧
    (∀ (s : State) (p : Port) (f : MeterFrame),
      ((s.mlu p).slots.hasFree = true → (s.mlu p).owed = none → s.sendUnasked p f = s.compose p f) ∧
        ((s.mlu p).slots.hasFree = false ∨ (s.mlu p).owed ≠ none →
          s.sendUnasked p f = s.setMlu p { s.mlu p with owed := some f })) ∧
    (∀ (s : State) (p : Port) (r : Run) (reason : RunReason),
      let closed : State := { s with ret := { s.ret with
        funds := s.ret.funds.set p { s.fundsOf p with
          available := (s.fundsOf p).available + (s.fundsOf p).reserved, reserved := 0 }
        runs := s.ret.runs.set p none
        queue := s.ret.queue.filter (· ≠ p) } }
      s.closeUnasked p r reason =
        (closed.sendUnasked p (.runend r.id reason r.printed r.spoiled)).post
          (.runend p r.id reason r.pieces r.printed r.spoiled r.charge (r.granted * r.charge))) ∧
    ∀ (s : State) (p : Port) (r : Run) (owed : MeterFrame), (s.mlu p).owed = some owed →
      s.closeUnasked p r .cancelled =
        ((({ s with ret := { s.ret with
            funds := s.ret.funds.set p { s.fundsOf p with
              available := (s.fundsOf p).available + (s.fundsOf p).reserved, reserved := 0 }
            runs := s.ret.runs.set p none
            queue := s.ret.queue.filter (· ≠ p) } } : State).setMlu p
          { s.mlu p with owed := some (.runend r.id .cancelled r.printed r.spoiled) }).post
        (.runend p r.id .cancelled r.pieces r.printed r.spoiled r.charge (r.granted * r.charge)))

/-- A RUN taken on a READY Port that passes every check is admitted with the next Run Id: reserved when
Available covers its Run Total, or when no Run waits and the pool covers the rest, and then answered RUNOK
with the first block; and otherwise it joins the tail of the queue, RUNWAIT is posted, and it is answered
WAIT. A RUN in LOCKED, on a suspended Port and on a Port with a Run is refused and changes nothing; one on
an UNANNOUNCED Port with class 1 not in the Offer takes the Port to REFUSED, and with class 1 in it the RUN
is taken as on a READY Port with the Basic Profile, UNANNOUNCED-USE latched. A RUN with faulty fields is
refused FIELDS or FORMAT, and one that the Profile, the Charge Computation or the limits do not admit is
refused SIZE to FULL, in the order of those checks. The reservation moves the Run Total from Available to
Reserved, after a draw when Available does not cover it; the composition of a RUNOK or GRANT debits its
block and restarts the silence timer, and that of a HALT restarts it. -/
def Obligations.RunAdmission : Prop :=
  (∀ (s : State) (p : Port) (fc fw fu fn : Text) (c w n : Nat), s.MeterFree p →
      (s.record p).state ≠ .refused →
      readNumber 1 fc = some c → readNumber 5 fw = some w → readNumber 5 fn = some n →
      (s.lockMark = true → exec (.run p [fc, fw, fu, fn]) s =
        .next (s.compose p (.badreq (word "RUN") .locked 0))) ∧
      (s.lockMark = false → s.suspendedOf p = true → exec (.run p [fc, fw, fu, fn]) s =
        .next (s.compose p (.badreq (word "RUN") .suspended 0))) ∧
      (s.lockMark = false → s.suspendedOf p = false → ∀ q, (s.record p).state = .ready →
        (s.record p).profile = some q → s.runOf p ≠ none → exec (.run p [fc, fw, fu, fn]) s =
          .next (s.compose p (.badreq (word "RUN") .busy 0))) ∧
      (s.lockMark = false → s.suspendedOf p = false → (s.record p).state = .unannounced →
        1 ∉ s.ret.offer.classes → exec (.run p [fc, fw, fu, fn]) s =
          .next ((s.setRecord p { s.record p with state := .refused, profile := none }).compose p
            (.badreq (word "RUN") .noclass 1))) ∧
      (s.lockMark = false → s.suspendedOf p = false → (s.record p).state = .unannounced →
        1 ∈ s.ret.offer.classes → exec (.run p [fc, fw, fu, fn]) s =
          exec (.run p [fc, fw, fu, fn]) (s.setRecord p { s.record p with
            state := .ready
            profile := some { level := 1, classes := [1], surcharges := [], maxRun := 1, block := 1,
                              basic := true }
            latched := { (s.record p).latched with unannouncedUse := true } }))) ∧
    (∀ (s : State) (p : Port) (fs : List Text), s.MeterFree p → (s.record p).state ≠ .refused →
      (fs.length ≠ 4 →
        exec (.run p fs) s = .next (s.compose p (.badreq (word "RUN") .fields 0))) ∧
      ∀ fc fw fu fn, fs = [fc, fw, fu, fn] →
        (readNumber 1 fc = none →
          exec (.run p fs) s = .next (s.compose p (.badreq (word "RUN") .format 1))) ∧
        (readNumber 1 fc ≠ none → readNumber 5 fw = none →
          exec (.run p fs) s = .next (s.compose p (.badreq (word "RUN") .format 2))) ∧
        (readNumber 1 fc ≠ none → readNumber 5 fw ≠ none → readNumber 5 fn = none →
          exec (.run p fs) s = .next (s.compose p (.badreq (word "RUN") .format 4)))) ∧
    (∀ (s : State) (p : Port) (fc fw fu fn : Text) (c w n : Nat) (q : Profile), s.MeterFree p →
      (s.record p).state = .ready → (s.record p).profile = some q → s.lockMark = false →
      s.suspendedOf p = false → s.runOf p = none →
      readNumber 1 fc = some c → readNumber 5 fw = some w → readNumber 5 fn = some n →
      let refused (word_ : RefusalWord) (pos : Nat) : Prop :=
        exec (.run p [fc, fw, fu, fn]) s = .next (s.compose p (.badreq (word "RUN") word_ pos))
      let letters? := match readLetters fu with
        | some letters => if ∀ l ∈ letters, l ∈ q.surcharges then some letters else none
        | none => none
      (n < 1 ∨ q.maxRun < n → refused .size 4) ∧
        (1 ≤ n → n ≤ q.maxRun → c ∉ q.classes → refused .noclass 1) ∧
        (1 ≤ n → n ≤ q.maxRun → c ∈ q.classes →
          match computeCharge s.ret.current c w letters? n with
          | .error .noclass => refused .noclass 1
          | .error .noband => refused .noband 2
          | .error .nosurch => refused .nosurch 3
          | .error .zero => refused .zero 0
          | .error .overflow => refused .overflow 4
          | .ok r =>
            ((s.fundsOf p).runLimit < r.total → refused .overlimit 0) ∧
              (r.total ≤ (s.fundsOf p).runLimit → 999999999999 < (s.fundsOf p).usedValue + r.total →
                refused .full 0))) ∧
    (∀ (s : State) (p : Port) (total : Nat),
      let f := s.fundsOf p
      let drawn := min s.ret.pool (min (total - f.available + f.target) (99999999 - s.holding p))
      (total ≤ f.available → s.reserve p total = s.setFunds p
        { f with available := f.available - total, reserved := f.reserved + total }) ∧
      (f.available < total → s.reserve p total = (s.setPool (s.ret.pool - drawn)).setFunds p
        { f with available := f.available + drawn - total, reserved := f.reserved + total })) ∧
    (∀ (s : State) (p : Port) (f : MeterFrame),
      let placed := s.setMlu p { s.mlu p with
        slots := (s.mlu p).slots.put f
        sending := (s.mlu p).sending || (!(s.mlu p).heldByMeter && !(s.mlu p).drivingBreak) }
      (s.mlu p).slots.hasFree = true →
        (∀ r b, s.runOf p = some r → (∃ i e q, f = .runok i e q b) ∨ (∃ i, f = .grant i b) →
          s.compose p f = (placed.setRun p (some { r with
              granted := r.granted + b
              silenceDeadline := some (s.fundsOf p).silenceLimit })).setFunds p { s.fundsOf p with
            reserved := (s.fundsOf p).reserved - b * r.charge
            usedValue := (s.fundsOf p).usedValue + b * r.charge
            usedPieces := (s.fundsOf p).usedPieces + b }) ∧
        (∀ r i, s.runOf p = some r → f = .halt i → s.compose p f = placed.setRun p
          (some { r with silenceDeadline := some (s.fundsOf p).silenceLimit })) ∧
        ((∀ i e q b, f ≠ .runok i e q b) → (∀ i b, f ≠ .grant i b) → (∀ i, f ≠ .halt i) →
          s.compose p f = placed)) ∧
    ∀ (s : State) (p : Port) (fc fw fu fn : Text) (c w n : Nat) (q : Profile)
      (letters : List Letter) (r : ChargeResult), s.MeterFree p → (s.record p).state = .ready →
      (s.record p).profile = some q → s.lockMark = false → s.suspendedOf p = false →
      s.runOf p = none →
      readNumber 1 fc = some c → readNumber 5 fw = some w → readNumber 5 fn = some n →
      1 ≤ n → n ≤ q.maxRun → c ∈ q.classes → readLetters fu = some letters →
      (∀ l ∈ letters, l ∈ q.surcharges) →
      computeCharge s.ret.current c w (some letters) n = .ok r →
      r.total ≤ (s.fundsOf p).runLimit → (s.fundsOf p).usedValue + r.total ≤ 999999999999 →
      let id := if s.ret.runIds.get p < 9999 then s.ret.runIds.get p + 1 else 1
      let admitted : Run :=
        { id := id, state := .waiting, pieces := n, level := q.level, block := q.block,
          edition := r.edition, charge := r.charge, total := r.total, granted := 0, printed := 0,
          spoiled := 0, waitDeadline := none, silenceDeadline := none, cancelRequested := false }
      let numbered : State := { s with ret := { s.ret with runIds := s.ret.runIds.set p id } }
      exec (.run p [fc, fw, fu, fn]) s =
        if r.total ≤ (s.fundsOf p).available ∨
            (s.ret.queue = [] ∧ r.total - (s.fundsOf p).available ≤ s.ret.pool) then
          .next ((((numbered.setRun p (some { admitted with
              state := .active, silenceDeadline := some (s.fundsOf p).silenceLimit })).reserve p
                r.total).lowMarkCheck p).compose p (.runok id r.edition r.charge (min q.block n)))
        else
          .next ((((numbered.setRun p (some { admitted with
              waitDeadline := some (s.fundsOf p).waitLimit })).setQueue (s.ret.queue ++ [p])).post
                (.runwait p id r.total (r.total - (s.fundsOf p).available) s.ret.pool
                  (s.ret.queue.length + 1))).compose p (.wait id))

/-- A DONE: NORUN when no Run that is ACTIVE or CANCELLING bears its id. Otherwise its counts are clamped
and taken, COUNT-MISMATCH is latched when a clamp lowered one, the silence timer restarts, and the answer
is ACK while pieces are outstanding, GRANT while pieces are ungranted, and RUNEND when the Run closes. A
DONE with two fields is taken as one whose third is empty, and one with another number of fields is refused
FIELDS. That a NORUN writes the id as a number, without leading zeros, is the model's reading (log
entry 17). -/
def Obligations.DoneCountsAndAnswers : Prop :=
  (∀ (s : State) (p : Port) (fi fp fs : Text) (id printed : Nat) (spoiled? : Option Nat),
      s.MeterFree p → (s.record p).state ≠ .refused →
      readNumber 4 fi = some id → readNumber 4 fp = some printed → readOptional 4 fs = some spoiled? →
      (∀ r, s.runOf p = some r → r.id ≠ id ∨ r.state = .waiting) →
      exec (.done p [fi, fp, fs]) s = .next (s.compose p (.norun id))) ∧
    (∀ (s : State) (p : Port) (fi fp : Text), s.MeterFree p →
      exec (.done p [fi, fp]) s = exec (.done p [fi, fp, []]) s) ∧
    (∀ (s : State) (p : Port) (fs : List Text), s.MeterFree p → (s.record p).state ≠ .refused →
      fs.length ≠ 2 → fs.length ≠ 3 →
      exec (.done p fs) s = .next (s.compose p (.badreq (word "DONE") .fields 0))) ∧
    ∀ (s : State) (p : Port) (fi fp fs : Text) (printed : Nat) (spoiled? : Option Nat) (r : Run),
      s.MeterFree p → (s.record p).state ≠ .refused → s.runOf p = some r → r.state ≠ .waiting →
      readNumber 4 fi = some r.id → readNumber 4 fp = some printed → readOptional 4 fs = some spoiled? →
      let outstanding := r.granted - r.printed
      let counted := min printed outstanding
      let spoiled := min (spoiled?.getD 0) counted
      let left := outstanding - counted
      let after : Run := { r with
        printed := r.printed + counted
        spoiled := r.spoiled + spoiled
        silenceDeadline := some (s.fundsOf p).silenceLimit }
      let booked := (s.setRun p (some after)).setFunds p { s.fundsOf p with
        spoilPieces := (s.fundsOf p).spoilPieces + spoiled
        spoilValue := (s.fundsOf p).spoilValue + spoiled * r.charge }
      let t := if outstanding < printed ∨ counted < spoiled?.getD 0 then booked.latch p .countMismatch
        else booked
      exec (.done p [fi, fp, fs]) s = .next (
        if r.state = .active ∧ 0 < left then t.compose p (.ack r.id left)
        else if r.state = .active ∧ r.granted < r.pieces then
          t.compose p (.grant r.id (min r.block (r.pieces - r.granted)))
        else if r.state = .active then
          (t.closeSilently p after .complete).compose p
            (.runend r.id .complete after.printed after.spoiled)
        else if r.level = 1 then
          (t.closeSilently p { after with printed := r.granted } .cancelled).compose p
            (.runend r.id .cancelled r.granted after.spoiled)
        else if 0 < left then t.compose p (.ack r.id left)
        else
          (t.closeSilently p after .cancelled).compose p
            (.runend r.id .cancelled after.printed after.spoiled))

/-- A STOP: NORUN when no Run bears its id. On a WAITING Run it closes the Run STOPPED and the pass runs.
On an ACTIVE or CANCELLING Run its counts are taken, the pieces granted and not printed return with their
value to Available, and the Run closes CANCELLED or STOPPED with its final Granted its final Printed. A STOP
with two fields is taken as one whose third is empty, and one with another number of fields is refused
FIELDS. That a NORUN writes the id as a number, without leading zeros, is the model's reading (log
entry 17). -/
def Obligations.StopReturnsUnprintedPieces : Prop :=
  (∀ (s : State) (p : Port) (fi fp fs : Text) (id printed : Nat) (spoiled? : Option Nat),
      s.MeterFree p → (s.record p).state ≠ .refused →
      readNumber 4 fi = some id → readNumber 4 fp = some printed → readOptional 4 fs = some spoiled? →
      (∀ r, s.runOf p = some r → r.id ≠ id) →
      exec (.stop p [fi, fp, fs]) s = .next (s.compose p (.norun id))) ∧
    (∀ (s : State) (p : Port) (fi fp : Text), s.MeterFree p →
      exec (.stop p [fi, fp]) s = exec (.stop p [fi, fp, []]) s) ∧
    (∀ (s : State) (p : Port) (fs : List Text), s.MeterFree p → (s.record p).state ≠ .refused →
      fs.length ≠ 2 → fs.length ≠ 3 →
      exec (.stop p fs) s = .next (s.compose p (.badreq (word "STOP") .fields 0))) ∧
    (∀ (s : State) (p : Port) (fi fp fs : Text) (printed : Nat) (spoiled? : Option Nat) (r : Run),
      s.MeterFree p → (s.record p).state ≠ .refused → s.runOf p = some r → r.state = .waiting →
      readNumber 4 fi = some r.id → readNumber 4 fp = some printed → readOptional 4 fs = some spoiled? →
      let t := if 0 < printed ∨ 0 < spoiled?.getD 0 then s.latch p .countMismatch else s
      exec (.stop p [fi, fp, fs]) s = .next (((t.closeSilently p r .stopped).pass).compose p
        (.runend r.id .stopped r.printed r.spoiled))) ∧
    ∀ (s : State) (p : Port) (fi fp fs : Text) (printed : Nat) (spoiled? : Option Nat) (r : Run),
      s.MeterFree p → (s.record p).state ≠ .refused → s.runOf p = some r → r.state ≠ .waiting →
      readNumber 4 fi = some r.id → readNumber 4 fp = some printed → readOptional 4 fs = some spoiled? →
      let outstanding := r.granted - r.printed
      let counted := min printed outstanding
      let spoiled := min (spoiled?.getD 0) counted
      let unprinted := outstanding - counted
      let reason : RunReason := if r.cancelRequested then .cancelled else .stopped
      let booked := (s.setRun p none).setFunds p { s.fundsOf p with
        available := (s.fundsOf p).available + unprinted * r.charge + (s.fundsOf p).reserved
        reserved := 0
        usedValue := (s.fundsOf p).usedValue - unprinted * r.charge
        usedPieces := (s.fundsOf p).usedPieces - unprinted
        spoilPieces := (s.fundsOf p).spoilPieces + spoiled
        spoilValue := (s.fundsOf p).spoilValue + spoiled * r.charge }
      let t := if outstanding < printed ∨ counted < spoiled?.getD 0 then booked.latch p .countMismatch
        else booked
      exec (.stop p [fi, fp, fs]) s =
        .next (((t.setQueue (s.ret.queue.filter (· ≠ p))).post
          (.runend p r.id reason r.pieces (r.printed + counted) (r.spoiled + spoiled) r.charge
            ((r.printed + counted) * r.charge))).compose p
          (.runend r.id reason (r.printed + counted) (r.spoiled + spoiled)))

/-- The silence timer of an ACTIVE or CANCELLING Run closes it SILENT with its Outstanding counted as
printed, latching SILENT-CLOSE; the wait timer of a WAITING Run posts NOFUNDS, closes it NOFUNDS and runs
the pass. -/
def Obligations.RunTimersCloseRuns : Prop :=
  (∀ (s : State) (p : Port) (r : Run), s.power = .running → s.runOf p = some r → r.state ≠ .waiting →
      exec (.silenceTimerExpiry p) s =
        .next ((s.latch p .silentClose).closeUnasked p { r with printed := r.granted } .silent)) ∧
    ∀ (s : State) (p : Port) (r : Run), s.power = .running → s.runOf p = some r → r.state = .waiting →
      exec (.waitTimerExpiry p) s =
        .next ((s.post (.nofunds p r.id r.total (r.total - (s.fundsOf p).available)
          s.ret.pool)).closeUnasked p r .nofunds).pass

/-! ### Stock -/

/-- LINE defines a Stock Line: the denomination, form and state given are stored and the registers kept,
but for a change of denomination with pieces on hand, which is refused NOTEMPTY. A denomination out of
range is refused. -/
def Obligations.LineDefined : Prop :=
  ∀ (s : State) (fl fd : Text) (i : Fin 24) (denomination : Nat) (form : StockForm)
    (state : StockState), s.HostReady → state ≠ .undefinedLine →
    readNumber 2 fl = some (i.val + 1) → readNumber 5 fd = some denomination →
    exec (.line [fl, fd, form.text, state.text]) s =
      if denomination < 1 ∨ 9999 < denomination then s.refusal .line .range 2
      else if (∃ d, (s.stockLine i).denomination = some d ∧ d ≠ denomination) ∧
          0 < (s.stockLine i).onHand then s.refusal .line .notempty 2
      else .next (({ s with ret := { s.ret with stock := s.ret.stock.set i { s.stockLine i with
          state := state, denomination := some denomination, form := some form } } } : State).reply
        (.ok .line [.num (i.val + 1), .num denomination, .text form.text, .text state.text]))

/-- RECEIVE: the line must be OPEN, no Run may wait, and On-hand and the pool must have room and funds for
the consignment; then its value leaves the pool and its pieces join On-hand. -/
def Obligations.ReceivePaysFromPool : Prop :=
  ∀ (s : State) (fl fp : Text) (i : Fin 24) (pieces : Nat), s.HostReady →
    readNumber 2 fl = some (i.val + 1) → readNumber 5 fp = some pieces →
    let l := s.stockLine i
    let value := pieces * l.denomination.getD 0
    exec (.receive [fl, fp]) s =
      if pieces < 1 ∨ 9999 < pieces then s.refusal .receive .range 2
      else if l.state ≠ .onSale then s.refusal .receive .state 1
      else if s.ret.queue ≠ [] then s.refusal .receive .queued 0
      else if 9999 < l.onHand + pieces then s.refusal .receive .full 2
      else if s.ret.pool < value then s.refusal .receive .short 2
      else .next (({ s with ret := { s.ret with
          pool := s.ret.pool - value
          stock := s.ret.stock.set i { l with onHand := l.onHand + pieces } } } : State).reply
        (.ok .receive [.num (i.val + 1), .num (l.onHand + pieces), .num value,
          .num (s.ret.pool - value)]))

/-- SELL moves pieces from On-hand to the sold registers; RETURN moves their value to the pool and runs the
pass. Both refuse an UNDEFINED line and more pieces than are on hand. -/
def Obligations.StockSoldOrReturned : Prop :=
  ∀ (s : State) (fl fp : Text) (i : Fin 24) (pieces : Nat), s.HostReady →
    readNumber 2 fl = some (i.val + 1) → readNumber 5 fp = some pieces →
    let l := s.stockLine i
    let value := pieces * l.denomination.getD 0
    (exec (.sell [fl, fp]) s =
      if pieces < 1 ∨ 9999 < pieces then s.refusal .sell .range 2
      else if l.state = .undefinedLine then s.refusal .sell .state 1
      else if l.onHand < pieces then s.refusal .sell .short 2
      else if 999999999999 < l.soldValue + value then s.refusal .sell .full 2
      else .next (({ s with ret := { s.ret with stock := s.ret.stock.set i { l with
          onHand := l.onHand - pieces
          soldPieces := l.soldPieces + pieces
          soldValue := l.soldValue + value } } } : State).reply
        (.ok .sell [.num (i.val + 1), .num (l.onHand - pieces), .num value]))) ∧
    exec (.returnStock [fl, fp]) s =
      if pieces < 1 ∨ 9999 < pieces then s.refusal .returnStock .range 2
      else if l.state = .undefinedLine then s.refusal .returnStock .state 1
      else if l.onHand < pieces then s.refusal .returnStock .short 2
      else if 99999999 < s.ret.pool + value then s.refusal .returnStock .poolfull 2
      else
        let moved : State := { s with ret := { s.ret with
          pool := s.ret.pool + value
          stock := s.ret.stock.set i { l with onHand := l.onHand - pieces } } }
        let t := moved.pass
        .next (t.reply (.ok .returnStock
          [.num (i.val + 1), .num (l.onHand - pieces), .num value, .num t.ret.pool]))

/-- COUNT: EQUAL changes nothing; SHORT and OVER add their value to Shortage Total or Surplus Total, set
On-hand to the count, append an entry to the Discrepancy Log and post STOCKDIFF. -/
def Obligations.CountSettlesBook : Prop :=
  ∀ (s : State) (fl fc : Text) (i : Fin 24) (counted : Nat), s.HostReady →
    readNumber 2 fl = some (i.val + 1) → readNumber 5 fc = some counted →
    let l := s.stockLine i
    let d := l.denomination.getD 0
    let difference : Int := (counted : Int) - l.onHand
    let entry : Discrepancy := ⟨i.val + 1, d, l.onHand, counted, difference, difference * d⟩
    let number := min 999999 (s.ret.logCount + 1)
    let log := (if s.ret.log.length < 16 then s.ret.log else s.ret.log.drop 1) ++ [entry]
    let answer (outcome : String) : HostReply := .ok .count [.num (i.val + 1), .text (word outcome),
      .num l.onHand, .num counted, .int difference, .int (difference * d)]
    exec (.count [fl, fc]) s =
      if 9999 < counted then s.refusal .count .range 2
      else if l.state = .undefinedLine then s.refusal .count .state 1
      else if counted = l.onHand then .next (s.reply (answer "EQUAL"))
      else if counted < l.onHand then
        if 999999999999 < s.ret.shortage + (l.onHand - counted) * d then s.refusal .count .full 2
        else .next (((({ s with ret := { s.ret with
            shortage := s.ret.shortage + (l.onHand - counted) * d
            stock := s.ret.stock.set i { l with onHand := counted }
            log := log
            logCount := number } } : State).post (.stockdiff .short entry number))).reply
          (answer "SHORT"))
      else if 999999999999 < s.ret.surplus + (counted - l.onHand) * d then s.refusal .count .full 2
      else .next (((({ s with ret := { s.ret with
          surplus := s.ret.surplus + (counted - l.onHand) * d
          stock := s.ret.stock.set i { l with onHand := counted }
          log := log
          logCount := number } } : State).post (.stockdiff .over entry number))).reply
        (answer "OVER"))

/-! ### Reports -/

/-- FUNDS, PORTFUNDS, STOCKREP, DISCREP and RATEREP answer with the figures as they stand and change
nothing else. -/
def Obligations.ReportsChangeNothing : Prop :=
  ∀ s : State, s.HostReady →
    (exec (.funds []) s = .next (s.reply (.ok .funds
      [.num s.ret.pool, .num s.ret.credited, .num s.ret.withdrawn, .num s.ret.surplus,
        .num s.ret.shortage, .num s.ret.lastOrder,
        .num (sumOver s.ret.stock fun l => l.onHand * l.denomination.getD 0),
        .num (sumOver s.ret.stock fun l => l.soldValue), .num s.ret.queue.length]))) ∧
    (∀ (fp : Text) (port : Nat), readNumber 1 fp = some port →
      exec (.portfunds [fp]) s =
        match portOf port with
        | none => s.refusal .portfunds .range 1
        | some p =>
          let f := s.fundsOf p
          .next (s.reply (.ok .portfunds [.num (p.val + 1), .num f.available, .num f.reserved,
            .num f.usedValue, .num f.usedPieces, .num f.spoilPieces, .num f.spoilValue, .num f.lowMark,
            .num f.target, .num (if f.short then 1 else 0), .num f.runLimit, .num f.silenceLimit,
            .num f.waitLimit]))) ∧
    (∀ (fl : Text) (i : Fin 24), readNumber 2 fl = some (i.val + 1) →
      let l := s.stockLine i
      exec (.stockrep [fl]) s = .next (s.reply (.ok .stockrep
        [.num (i.val + 1), .text l.state.text,
          match l.denomination with | some d => .num d | none => .text [],
          match l.form with | some f => .text f.text | none => .text [],
          .num l.onHand, .num (l.onHand * l.denomination.getD 0), .num l.soldPieces,
          .num l.soldValue]))) ∧
    (∀ (ff : Text) (start : Nat), readNumber 2 ff = some start →
      exec (.discrep [ff]) s =
        if start < 1 ∨ 16 < start then s.refusal .discrep .range 1
        else
          let entries := (s.ret.log.drop (start - 1)).take 4
          .next (s.reply (.ok .discrep (.num s.ret.logCount :: .num s.ret.log.length ::
            .num (min 4 (s.ret.log.length + 1 - start)) ::
              (entries.map fun e => [Figure.num e.line, .num e.denomination, .num e.book,
                .num e.counted, .int e.difference, .int e.value]).flatten)))) ∧
    (∀ c : Fin 8,
      exec (.raterep [word "CURRENT", [digitChar (c.val + 1)]]) s = .next (s.reply (.ok .raterep
        (.num s.ret.current.edition :: .text [digitChar (c.val + 1)] ::
          ((s.ret.current.bands.get c).toList.map fun b =>
            match b with
            | some b => [Figure.num b.lower, .num b.upper, .num b.rate]
            | none => [.text [], .text [], .text []]).flatten)))) ∧
    (exec (.raterep [word "NEXT", word "S"]) s = .next (s.reply (.ok .raterep
      (.num s.ret.next.edition :: .text (word "S") ::
        (s.ret.next.surcharges.toList.map fun a =>
          match a with | some a => Figure.num a | none => .text []))))) ∧
    exec (.raterep [word "NEXT", word "T"]) s = .next (s.reply (.ok .raterep
      (.num s.ret.next.edition :: .text (word "T") ::
        (s.ret.next.tiers.toList.map fun t =>
          match t with
          | some t => [Figure.num t.minimum, .num t.perMille]
          | none => [.text [], .text []]).flatten)))

/-! ### Ports -/

/-- OFFER replaces the Offer: sets of classes and letters as the fields spell them, the largest Run and the
block clamped, an empty one left as it is. A character outside the sets is refused RANGE. -/
def Obligations.OfferReplaced : Prop :=
  ∀ (s : State) (fc fl fm fb : Text) (max? block? : Option Nat), s.HostReady →
    readOptional 5 fm = some max? → readOptional 3 fb = some block? →
    exec (.offer [fc, fl, fm, fb]) s =
      match readClasses fc, readLetters fl with
      | none, _ => s.refusal .offer .range 1
      | some _, none => s.refusal .offer .range 2
      | some classes, some letters =>
        let largest := match max? with
          | none => s.ret.offer.maxRun
          | some n => max 1 (min n 9999)
        let block := match block? with
          | none => s.ret.offer.block
          | some n => max 1 (min n 25)
        let figures : List Figure := [.text (classes.map digitChar), .text (letters.map Letter.char),
          .num largest, .num block]
        .next (({ s with ret := { s.ret with offer := ⟨classes, letters, largest, block⟩ } } :
          State).reply (if max? ≠ none ∧ max? ≠ some largest then .adj .offer 3 figures
            else if block? ≠ none ∧ block? ≠ some block then .adj .offer 4 figures
            else .ok .offer figures))

/-- SUSPEND sets the suspended flag, closing a WAITING Run SUSPENDED, after which the pass runs; RESUME
clears the flag. A Port in LOOPBACK is refused STATE. -/
def Obligations.PortSuspendedOrResumed : Prop :=
  ∀ (s : State) (fp : Text) (port : Nat), s.HostReady → readNumber 1 fp = some port →
    (exec (.suspend [fp]) s =
      match portOf port with
      | none => s.refusal .suspend .range 1
      | some p =>
        let flagged : State :=
          { s with ret := { s.ret with suspended := s.ret.suspended.set p true } }
        if (s.record p).state = .loopback then s.refusal .suspend .state 1
        else match s.runOf p with
        | none => .next (flagged.reply (.ok .suspend [.num port, .text []]))
        | some r =>
          if r.state = .waiting then
            .next (((flagged.closeUnasked p r .suspended).pass).reply
              (.ok .suspend [.num port, .num r.id]))
          else .next (flagged.reply (.ok .suspend [.num port, .text []]))) ∧
    exec (.resume [fp]) s =
      match portOf port with
      | none => s.refusal .resume .range 1
      | some p =>
        if (s.record p).state = .loopback then s.refusal .resume .state 1
        else .next (({ s with ret := { s.ret with suspended := s.ret.suspended.set p false } } :
          State).reply (.ok .resume [.num port]))

/-- PORTREP reports the Port Record as it stands, empties the latched set, and LINE-GOOD takes the line-up
flag. -/
def Obligations.PortrepReadsAndClears : Prop :=
  ∀ (s : State) (fp : Text) (port : Nat), s.HostReady → readNumber 1 fp = some port →
    exec (.portrep [fp]) s =
      match portOf port with
      | none => s.refusal .portrep .range 1
      | some p =>
        let r := s.record p
        let flag (b : Bool) : Figure := .num (if b then 1 else 0)
        let profile : List Figure := match r.profile with
          | some q => [.num q.level, .text (q.classes.map digitChar),
            .text (q.surcharges.map Letter.char), .num q.maxRun, .num q.block, flag q.basic]
          | none => [.text [], .text [], .text [], .text [], .text [], .text []]
        let run : List Figure := match s.runOf p with
          | some u => [.num u.id, .text u.state.text, .num u.pieces, .num u.granted, .num u.printed]
          | none => [.text [], .text [], .text [], .text [], .text []]
        .next ((s.setRecord p { r with latched := Latches.none, lineGood := (s.mlu p).lineUp }).reply
          (.ok .portrep ([.num port, .text r.state.text, flag (s.ret.suspended.get p),
              flag (s.mlu p).lineUp, flag r.lineGood] ++ profile ++
            [match s.ret.serials.get p with | some t => .text t | none => .text [],
              .text r.latched.letters,
              match r.lastError with | some e => .text (faultText e) | none => .text (word "NONE"),
              match r.loopResult with
              | none => .text (word "NONE")
              | some ⟨none, _⟩ => .text (word "COMPLETE")
              | some ⟨some e, _⟩ => .text (faultText e),
              match r.loopResult with | none => .text [] | some x => .text x.text] ++ run)))

/-- ANNOUNCE with well-formed fields: refused in LOCKED, on a suspended Port and on a Port with a Run, with
nothing changed. Otherwise a changed serial on a funded Port latches METER-CHANGED and posts its Notice,
the serial is recorded, the Profile is resolved with the Offer, the Port becomes READY or, with no common
class, REFUSED, and ATTACH is posted. -/
def Obligations.AnnouncementResolved : Prop :=
  ∀ (s : State) (p : Port) (fv serial fc fl fm fb : Text) (level most block : Nat)
    (classes : List Nat) (letters : List Letter), s.MeterFree p →
    readNumber 1 fv = some level → 1 ≤ level → serial.length = 8 →
    (∀ c ∈ serial, (digitValue c).isSome = true) → readClasses fc = some classes →
    readLetters fl = some letters → readNumber 4 fm = some most → readNumber 2 fb = some block →
    exec (.announce p [fv, serial, fc, fl, fm, fb]) s =
      if s.lockMark = true then .next (s.compose p (.badreq (word "ANNOUNCE") .locked 0))
      else if s.ret.suspended.get p = true then
        .next (s.compose p (.badreq (word "ANNOUNCE") .suspended 0))
      else if s.runOf p ≠ none then .next (s.compose p (.badreq (word "ANNOUNCE") .busy 0))
      else
        let f := s.fundsOf p
        let profile : Profile :=
          { level := min level 2
            classes := classes.filter fun c => s.ret.offer.classes.contains c
            surcharges := letters.filter fun l => s.ret.offer.surcharges.contains l
            maxRun := min (max 1 most) s.ret.offer.maxRun
            block := min (max 1 block) s.ret.offer.block
            basic := false }
        let changed : State :=
          if s.ret.serials.get p ≠ some serial ∧ 0 < f.available + f.reserved then
            (s.latch p .meterChanged).post
              (.meterchanged p (s.ret.serials.get p) serial f.available f.reserved)
          else s
        let named : State :=
          { changed with ret := { changed.ret with serials := changed.ret.serials.set p (some serial) } }
        if profile.classes = [] then
          .next (((named.setRecord p { named.record p with state := .refused, profile := none }).post
            (.attach p (s.record p).state serial none)).compose p .refuse)
        else
          .next (((named.setRecord p
              { named.record p with state := .ready, profile := some profile }).post
            (.attach p (s.record p).state serial (some profile))).compose p (.accept profile))

/-- METERRESET refuses a Port in LOOPBACK and sends an ABSENT one nothing. On an attached Port it clears the
Meter Line Unit and takes a meter reset with cause COMMAND: the Port is UNANNOUNCED with no Profile and no
Run, METER-RESET is latched and the METERRESET Notice is posted last. A break that a meter sends does the
same with cause BREAK. The transmitter drives the line to space until the end of the break. The figures of
the Notice after a pass, and the receive level held, are the model's (log entries 13, 20, 28 and 29). A
break detected ends a frame being collected BREAK and clears both hold flags. That it leaves a waiting HOLD,
and that a meter reset leaves a break being driven, are the model's (log entries 36 and 37). -/
def Obligations.MeterResetTaken : Prop :=
  (∀ (s : State) (fp : Text) (p : Port), s.HostReady → readNumber 1 fp = some (p.val + 1) →
      ((s.record p).state = .loopback →
        exec (.meterreset [fp]) s = s.refusal .meterreset .state 1) ∧
      ((s.record p).state = .absent →
        exec (.meterreset [fp]) s = .next (s.reply (.ok .meterreset [.num (p.val + 1)]))) ∧
      ((s.record p).state.attached = true →
        ∃ t : State, exec (.meterreset [fp]) s = .next (t.reply (.ok .meterreset [.num (p.val + 1)])) ∧
          s.ResetAtLine t p .command ∧ (t.mlu p).drivingBreak = true)) ∧
    (∀ (s : State) (p : Port), s.power = .running → (s.record p).state.attached = true →
      ∃ t : State, exec (.meterReset p) s = .next t ∧ s.ResetAtLine t p .lineBreak ∧
        (t.mlu p).drivingBreak = (s.mlu p).drivingBreak) ∧
    (∀ (s : State) (p : Port), s.power = .running → (s.mlu p).drivingBreak = true →
      exec (.meterresetBreakEnd p) s = .next (s.setMlu p { s.mlu p with
        drivingBreak := false
        flowWaiting := false
        sending := (s.mlu p).sending || ((s.mlu p).slots.first.isSome && !(s.mlu p).heldByMeter) })) ∧
    (∀ (s : State) (p : Port) (body : Text) (atSpace : Bool), s.power = .running →
      (s.record p).state.attached = true → (s.mlu p).rx = .collect body atSpace →
      exec (.breakDetected p) s = .next (((s.setMlu p { s.mlu p with
        rx := .idleWait
        heldByUs := false
        heldByMeter := false
        sending := (s.mlu p).sending ||
          ((s.mlu p).slots.first.isSome && !(s.mlu p).drivingBreak) }).setRecord p { s.record p with
        latched := { (s.record p).latched with lineError := true }
        lastError := some .lineBreak }).setMarking p false)) ∧
    ∀ (s : State) (p : Port), s.power = .running → (s.record p).state.attached = true →
      (∀ body atSpace, (s.mlu p).rx ≠ .collect body atSpace) →
      exec (.breakDetected p) s = .next ((s.setMlu p { s.mlu p with
        rx := .idleWait
        heldByUs := false
        heldByMeter := false
        sending := (s.mlu p).sending ||
          ((s.mlu p).slots.first.isSome && !(s.mlu p).drivingBreak) }).setMarking p false)

/-- Line down on an attached Port clears its Meter Line Unit, takes it to ABSENT with no Profile and no Run,
sends LINE-GOOD low and posts DETACH last; line up takes an ABSENT Port to UNANNOUNCED with its receiver in
READY. In LOOPBACK both move the line-up flag alone, and line down sends LINE-GOOD low. The figures of the
Notice after a pass, and the receive level held, are the model's (log entries 20, 28 and 29). -/
def Obligations.LineDownAndLineUp : Prop :=
  (∀ (s : State) (p : Port), s.power = .running → (s.record p).state.attached = true →
      (s.mlu p).lineUp = true →
      ∃ t : State, exec (.lineDown p) s = .next t ∧ (t.mlu p).Cleared ∧ (t.mlu p).lineUp = false ∧
        (t.record p).state = .absent ∧ (t.record p).profile = none ∧ (t.record p).lineGood = false ∧
        s.ClosedAtLine t p ∧
        t.notices.getLast? = some (.detach p (s.record p).state (s.serialOf p) (s.runIdOr0 p)
          (t.fundsOf p).available (t.fundsOf p).reserved)) ∧
    (∀ (s : State) (p : Port), s.power = .running → (s.record p).state = .absent →
      (s.mlu p).lineUp = false →
      exec (.lineUp p) s = .next (((s.setMlu p { s.mlu p with lineUp := true, rx := .ready }).setRecord p
        { s.record p with state := .unannounced }).setMarking p true)) ∧
    (∀ (s : State) (p : Port), s.power = .running → (s.record p).state = .loopback →
      (s.mlu p).lineUp = true →
      exec (.lineDown p) s = .next (((s.setMlu p { s.mlu p with lineUp := false }).setRecord p
        { s.record p with lineGood := false }).setMarking p false)) ∧
    ∀ (s : State) (p : Port), s.power = .running → (s.record p).state = .loopback →
      (s.mlu p).lineUp = false →
      exec (.lineUp p) s = .next ((s.setMlu p { s.mlu p with lineUp := true }).setMarking p true)

/-- LOOP ON takes a suspended Port with no Run into LOOPBACK and LOOP OFF takes it out again, each leaving
the Meter Line Unit empty with its receiver in IDLE-WAIT. That a break being driven ends is the model's
reading (log entry 18). -/
def Obligations.LoopbackEnteredAndLeft : Prop :=
  ∀ (s : State) (fp : Text) (port : Nat), s.HostReady → readNumber 1 fp = some port →
    (exec (.loopOn [fp, word "ON"]) s =
      match portOf port with
      | none => s.refusal .loop .range 1
      | some p =>
        if (s.record p).state = .loopback ∨ s.ret.suspended.get p = false then
          s.refusal .loop .state 1
        else if s.runOf p ≠ none then s.refusal .loop .busy 0
        else .next (((s.setMlu p { s.mlu p with
            rx := .idleWait, inputs := [], slots := .empty .A, sending := false, owed := none
            heldByUs := false, heldByMeter := false, flowOut := none, flowWaiting := false
            drivingBreak := false, testInFlight := false, sentEcho := none }).setRecord p { s.record p with
              state := .loopback, profile := none, loopResult := none }).reply
          (.ok .loop [.num port, .text (word "LOOPBACK")]))) ∧
    exec (.loopOff [fp, word "OFF"]) s =
      match portOf port with
      | none => s.refusal .loop .range 1
      | some p =>
        if (s.record p).state ≠ .loopback then s.refusal .loop .state 1
        else .next (((s.setMlu p { s.mlu p with
            rx := .idleWait, inputs := [], slots := .empty .A, sending := false, owed := none
            heldByUs := false, heldByMeter := false, flowOut := none, flowWaiting := false
            drivingBreak := false, testInFlight := false, sentEcho := none }).setRecord p { s.record p with
              state := if (s.mlu p).lineUp then .unannounced else .absent }).reply
          (.ok .loop [.num port,
            .text (if (s.mlu p).lineUp then word "UNANNOUNCED" else word "ABSENT")]))

/-- LINETEST: its checks in order, and, when they pass, the Last Loop Result is NONE, a test is in flight
and the ECHO frame is put into the free slot. The test ends with the text of the frame that comes back, with
the reason a frame failed for, or GAP when none comes. When the ECHO frame has gone its slot frees, before or
after its last characters come round: each continues the frame, the close marker ends it COMPLETE, and a
parity error ends it PARITY. The order of the checks of an empty text and of a port out of range, both slots
being full, where the ECHO frame is not composed, the slot that is next, and which characters come round are
the model's reading (log entries 7, 26, 8 and 39). -/
def Obligations.LineTestStartsAndEnds : Prop :=
  (∀ (s : State) (fp text : Text) (port : Nat), s.HostReady → readNumber 1 fp = some port →
      exec (.linetest [fp, text]) s =
        if text = [] then s.refusal .linetest .format 2
        else match portOf port with
        | none => s.refusal .linetest .range 1
        | some p =>
          if 60 < text.length then s.refusal .linetest .range 2
          else if (s.record p).state ≠ .loopback then s.refusal .linetest .state 1
          else if (s.mlu p).rx ≠ .ready ∨ (s.mlu p).testInFlight = true then
            s.refusal .linetest .busy 0
          else .next (((s.setRecord p { s.record p with loopResult := none }).setMlu p { s.mlu p with
              testInFlight := true
              slots := (s.mlu p).slots.put (.echo text)
              sending := (s.mlu p).sending || (!(s.mlu p).heldByMeter && !(s.mlu p).drivingBreak) }).reply
            (.ok .linetest [.num port]))) ∧
    (∀ (s : State) (p : Port) (a : SlotName) (f : MeterFrame), s.power = .running →
      (s.record p).state = .loopback → (s.mlu p).sending = true → (s.mlu p).slots = .one a f →
      exec (.meterSlotFree p) s = .next (s.setMlu p { s.mlu p with
        slots := .empty a.other, sending := false, flowWaiting := false, sentEcho := some f })) ∧
    (∀ (s : State) (p : Port) (f : MeterFrame) (body : Text) (c : Chr), s.power = .running →
      (s.record p).state = .loopback →
      (∃ a, (s.mlu p).slots = .one a f) ∨ ((s.mlu p).slots.first = none ∧ (s.mlu p).sentEcho = some f) →
      (s.mlu p).rx = .collect body false → f.onLine[body.length + 1]? = some c →
      (continues body c = true → body.length + 2 < 80 →
        exec (.characterReceived (.meter p) c .clean) s =
          .next (s.setMlu p { s.mlu p with rx := .collect (body ++ [c]) false })) ∧
      ((s.mlu p).testInFlight = true →
        (c = 0x7D → awaitsClose body = true → checkAgrees body = true →
          exec (.characterReceived (.meter p) c .clean) s = .next ((s.setMlu p
              { s.mlu p with rx := .ready, testInFlight := false }).setRecord p
            { s.record p with
              loopResult := some ⟨none, (frameOf (bodyContent body)).fields.headD []⟩ })) ∧
        exec (.characterReceived (.meter p) c .parity) s = .next ((s.setMlu p
            { s.mlu p with rx := .idleWait, testInFlight := false }).setRecord p
          { s.record p with loopResult := some ⟨some .parity, []⟩ }))) ∧
    ∀ (s : State) (p : Port), s.power = .running → (s.record p).state = .loopback →
      (s.mlu p).testInFlight = true →
      (∀ body, (s.mlu p).rx = .collect body false → awaitsClose body = true →
        checkAgrees body = true →
        exec (.loopbackTestEnd p none) s = .next ((s.setMlu p
            { s.mlu p with rx := .ready, testInFlight := false }).setRecord p
          { s.record p with
            loopResult := some ⟨none, (frameOf (bodyContent body)).fields.headD []⟩ })) ∧
      (∀ body atSpace reason, (s.mlu p).rx = .collect body atSpace →
        exec (.loopbackTestEnd p (some reason)) s = .next ((s.setMlu p
            { s.mlu p with rx := .idleWait, testInFlight := false }).setRecord p
          { s.record p with loopResult := some ⟨some reason, []⟩ })) ∧
      ((s.mlu p).slots.first = none →
        exec (.loopbackTestTimeout p) s = .next ((s.setMlu p
            { s.mlu p with testInFlight := false }).setRecord p
          { s.record p with loopResult := some ⟨some .gap, []⟩ }))

/-! ### The meter lines -/

/-- What reaches a Meter Line Unit: a complete frame is taken at once when a slot is free, and a faulty one
latches LINE-ERROR; an unknown verb is answered UNKNOWN and a RUN, DONE or STOP on a REFUSED Port NOTREADY.
With both slots full a record joins the Input Queue, the third calling for HOLD; a fifth is discarded and
OVERRUN latched. When a flow character waits is the model's reading (log entry 13). -/
def Obligations.MeterFramesReceived : Prop :=
  (∀ (s : State) (p : Port) (body : Text), s.MeterFree p → (s.mlu p).rx = .collect body false →
      awaitsClose body = true → checkAgrees body = true →
      let t := s.setMlu p { s.mlu p with rx := .ready }
      let f := frameOf (bodyContent body)
      exec (.meterFrameComplete p) s = .next ((route p f t).1.compose p (route p f t).2)) ∧
    (∀ (s : State) (p : Port) (body : Text) (atSpace : Bool) (reason : FaultReason),
      s.power = .running → (s.record p).state.attached = true → (s.mlu p).rx = .collect body atSpace →
      exec (.meterFrameError p reason) s =
        .next ((s.setMlu p { s.mlu p with rx := .idleWait }).setRecord p { s.record p with
          latched := { (s.record p).latched with lineError := true }, lastError := some reason })) ∧
    (∀ (s : State) (p : Port) (verb : Text) (fields : List Text), s.MeterFree p →
      verb ∉ meterVerbs → exec (.meterUnknownVerb p verb fields) s =
        .next (s.compose p (.badreq (verb.take 12) .unknown 0))) ∧
    (∀ (s : State) (p : Port) (fields : List Text), s.MeterFree p → (s.record p).state = .refused →
      exec (.run p fields) s = .next (s.compose p (.badreq (word "RUN") .notready 0)) ∧
        exec (.done p fields) s = .next (s.compose p (.badreq (word "DONE") .notready 0)) ∧
        exec (.stop p fields) s = .next (s.compose p (.badreq (word "STOP") .notready 0))) ∧
    ∀ (i : Instr) (p : Port) (f : Frame) (s : State), meterRecord i = some (p, f) →
      s.power = .running → (s.record p).state.attached = true → (s.mlu p).slots.hasFree = false →
      ((s.mlu p).inputs.length < 4 → (s.mlu p).inputs.length ≠ 2 ∨ (s.mlu p).heldByUs = true →
        exec i s = .next (s.setMlu p { s.mlu p with inputs := (s.mlu p).inputs ++ [f] })) ∧
      ((s.mlu p).inputs.length = 2 → (s.mlu p).heldByUs = false →
        exec i s = .next (s.setMlu p { s.mlu p with
          inputs := (s.mlu p).inputs ++ [f]
          heldByUs := true
          flowOut := some .hold
          flowWaiting := (s.mlu p).sending || (s.mlu p).drivingBreak })) ∧
      (4 ≤ (s.mlu p).inputs.length → exec i s = .next (s.latch p .overrun))

/-- When a meter frame has gone its slot frees and the transmitter begins the other slot's frame. The freed
slot goes to the Owed Frame, whatever is queued, else to the head of the Input Queue, else to none; with
only one slot held both are then free, and the next frame goes to the other slot, because the model reads
R140's 'beginning with A after every emptying of both slots' of an emptying by discard, not of both frames
having gone (log entry 8). A HOLD of the meter sets held-by-meter, and a GO clears it and begins the oldest
composed frame. HOLD goes out with its parity bit at one, and GO with it at zero. When a flow character due
has gone, that a HOLD or GO acts on an ABSENT Port, and that neither acts on a looped one, are the model's
readings (log entries 13, 27 and 39). -/
def Obligations.MeterTransmitter : Prop :=
  (∀ (s : State) (p : Port), s.power = .running → (s.record p).state.attached = true →
      (s.mlu p).sending = true → (s.mlu p).slots.hasFree = false →
      let freed : Mlu := { s.mlu p with
        slots := (s.mlu p).slots.release
        sending := !(s.mlu p).heldByMeter && !(s.mlu p).drivingBreak
        flowWaiting := false }
      ((s.mlu p).owed = none → (s.mlu p).inputs = [] →
        exec (.meterSlotFree p) s = .next (s.setMlu p freed)) ∧
      (∀ f, (s.mlu p).owed = some f →
        exec (.meterSlotFree p) s = .next ((s.setMlu p { freed with owed := none }).compose p f)) ∧
      (∀ f rest, (s.mlu p).owed = none → (s.mlu p).inputs = f :: rest →
        let t := s.setMlu p freed.takeOff
        exec (.meterSlotFree p) s = .next ((route p f t).1.compose p (route p f t).2))) ∧
    (∀ (s : State) (p : Port) (a : SlotName) (g : MeterFrame), s.power = .running →
      (s.record p).state.attached = true → (s.mlu p).sending = true → (s.mlu p).slots = .one a g →
      let freed : Mlu := { s.mlu p with
        slots := .empty a.other, sending := false, flowWaiting := false }
      ((s.mlu p).owed = none → (s.mlu p).inputs = [] →
        exec (.meterSlotFree p) s = .next (s.setMlu p freed)) ∧
      (∀ f, (s.mlu p).owed = some f → (s.mlu p).inputs = [] →
        exec (.meterSlotFree p) s = .next ((s.setMlu p { freed with owed := none }).compose p f)) ∧
      (∀ f, (s.mlu p).owed = none → (s.mlu p).inputs = [f] →
        let t := s.setMlu p freed.takeOff
        exec (.meterSlotFree p) s = .next ((route p f t).1.compose p (route p f t).2))) ∧
    (∀ (s : State) (p : Port), s.power = .running → (s.record p).state ≠ .loopback →
      (∀ body, (s.mlu p).rx ≠ .collect body true) →
      exec (.hold p) s = .next (s.setMlu p { s.mlu p with
        heldByMeter := true
        flowWaiting := (s.mlu p).flowWaiting && (s.mlu p).drivingBreak })) ∧
    (∀ (s : State) (p : Port), s.power = .running → (s.record p).state ≠ .loopback →
      (∀ body, (s.mlu p).rx ≠ .collect body true) →
      exec (.go p) s = .next (s.setMlu p { s.mlu p with
        heldByMeter := false
        flowWaiting := (s.mlu p).flowWaiting && (s.mlu p).drivingBreak
        sending := (s.mlu p).sending ||
          ((s.mlu p).slots.first.isSome && !(s.mlu p).drivingBreak) })) ∧
    (∀ (s : State) (p : Port), s.power = .running → (s.record p).state = .loopback →
      exec (.hold p) s = .next s ∧ exec (.go p) s = .next s) ∧
    ∀ (s : State) (p : Port), (s.mlu p).flowWaiting = false →
      ((s.mlu p).flowOut = some .hold → s.flowSent p = some (0x0E, true)) ∧
        ((s.mlu p).flowOut = some .go → s.flowSent p = some (0x0F, false))

/-! ### Notices, status, restarts and power -/

/-- NOTICES returns and removes the oldest Notices, at most four and as many as the reply has room for, and
reports and clears LOST. STATUS reports in either device state and empties the host latched conditions. A
Notice posted joins the tail, and at a full queue the oldest is first discarded and LOST set. The attention
output is asserted exactly while a Notice is held. -/
def Obligations.NoticesAndStatusRead : Prop :=
  (∀ s : State, s.HostReady → ∃ k, k ≤ 4 ∧ k ≤ s.notices.length ∧
      exec (.notices []) s = .next (({ s with notices := s.notices.drop k, lost := false } :
        State).reply (noticesReply s.lost s.notices k)) ∧
      (k = 0 ∨ (noticesReply s.lost s.notices k).onLine.length ≤ 240) ∧
      (k = 4 ∨ k = s.notices.length ∨
        240 < (noticesReply s.lost s.notices (k + 1)).onLine.length)) ∧
    (∀ (s : State) (n : Notice),
      (s.notices.length < 32 → s.post n = { s with notices := s.notices ++ [n] }) ∧
        (32 ≤ s.notices.length →
          s.post n = { s with notices := s.notices.drop 1 ++ [n], lost := true }) ∧
        (s.attention = true ↔ s.notices ≠ []) ∧ (s.post n).attention = true) ∧
    ∀ s : State, s.HostFree →
      exec (.status []) s = .next (({ s with host :=
          { s.host with overrun := false, frameError := false } } : State).reply (.ok .status
        [.text (if s.lockMark then word "LOCKED" else word "NORMAL"), .num s.ret.current.edition,
          .num s.ret.next.edition, .num s.ret.lastOrder, .num s.ret.queue.length,
          .num s.notices.length,
          .num (match s.host.speed with
            | .baud9600 => 9600 | .baud19200 => 19200 | .baud38400 => 38400 | .baud115200 => 115200),
          .text ((if s.host.overrun then word "O" else []) ++
            if s.host.frameError then word "F" else [])]))

/-- RESTART in NORMAL and REINIT in LOCKED are answered and set restart pending, REINIT storing the initial
contents, writing the check word and clearing the lock mark; REINIT in NORMAL is refused STATE. The part
restarts when the last character of that reply has gone, reading the straps again. A host break before the
reply has begun restarts it at the break, whether or not another reply was ahead; after it has begun the
reply is sent to its end. Where the row carries no levels of the pins, those found are a free value, whatever
the count `sampled`. The flag that a reply has begun is the model's (log entry 9), and so are the count and
the pins that a row carries (log entry 10). -/
def Obligations.RestartsFollowTheirReply : Prop :=
  (∀ s : State, s.HostReady →
      exec (.restart []) s = .next (({ s with host :=
          { s.host with restartPending := some .restart } } : State).reply (.ok .restart [])) ∧
        exec (.reinit []) s = s.refusal .reinit .state 0) ∧
    (∀ s : State, s.HostFree → s.lockMark = true →
      exec (.reinit []) s = .next (({ s with
          ret := Retained.initial
          shelved := none
          checkWord := some (Config.checkWord Retained.initial)
          lockMark := false
          host := { s.host with restartPending := some .reinit } } : State).reply (.ok .reinit []))) ∧
    (∀ (s : State) (a : SlotName) (ahead r : HostReply) (c : Cause) (begun : Bool),
      s.power = .running → s.host.slots = .two a ahead r → ahead.isRestart = false →
      s.host.restartPending = some c →
      exec (.hostBreak begun) s = .next (({ s with sampled := s.sampled + 1 } : State).startFrom c
        (Config.pinsFound s.sampled))) ∧
    (∀ (s : State) (a : SlotName) (r : HostReply) (c : Cause) (begun : Bool),
      s.power = .running → s.host.slots = .one a r → r.isRestart = true →
      s.host.restartPending = some c → s.host.begun = true ∨ begun = true →
      exec (.hostBreak begun) s = .next { s with host := { s.host with
        rx := .idleWait, hold := [], begun := true, frameError := true } }) ∧
    ∀ (s : State) (r : HostReply) (c : Cause) (pins : Pins), s.power = .running →
      s.host.slots.first = some r → r.isRestart = true → s.host.restartPending = some c →
      let restarted := ({ s with sampled := s.sampled + 1 } : State).startFrom c
        (Config.pinsFound s.sampled)
      exec .hostSlotFree s = .next restarted ∧
        (c = .restart → exec (.restartStartUp pins) s = .next (s.startFrom .restart pins)) ∧
        (c = .reinit → exec (.reinitStartUp pins) s = .next (s.startFrom .reinit pins)) ∧
        (s.host.begun = false → (∀ a x y, s.host.slots ≠ .two a x y) →
          exec (.hostBreak false) s = .next restarted)

/-- A part that runs stops at supply failing and at the reset input: receivers go to IDLE-WAIT, transmitters
stop, and in NORMAL the check word is written, unless the hold-up energy failed first. A stopped part
starts NORMAL when the lock mark is clear and the check word agrees, and LOCKED otherwise, the stored
contents left unused. Every transmit pin marks while the part is stopped and when a start-up is done, and
that of a Port whose line is down or looped back marks. How the failed hold-up energy, the failed cell, the
pins and the contents kept aside are held is the model's choice (log entries 10, 11, 12 and 19). -/
def Obligations.StopAndStartUp : Prop :=
  (∀ s : State, s.power = .running → ∃ t u : State,
      (∀ heldUp, exec (.supplyFailing heldUp) s = .next { t with
        pfail := true
        checkWord := if s.lockMark then s.checkWord
          else if heldUp then some (Config.checkWord s.ret) else none }) ∧
      exec .resetAsserted s = .next { u with resetIn := true } ∧
      u = { t with checkWord := if s.lockMark then s.checkWord else some (Config.checkWord s.ret) } ∧
      t.power = .stopped ∧ t.ret = s.ret ∧ t.shelved = s.shelved ∧ t.lockMark = s.lockMark ∧
      t.host = { s.host with rx := .idleWait } ∧ t.records = s.records ∧ t.notices = s.notices ∧
      (∀ p, t.mlu p = { s.mlu p with rx := .idleWait, sending := false, drivingBreak := false })) ∧
    (∀ (s : State) (pins : Pins) (failed : Bool), s.power = .stopped →
      exec (.startUp pins failed) s =
        if s.lockMark = true then .next (s.startFrom .start pins)
        else if failed = false ∧ s.checkWord = some (Config.checkWord s.ret) then
          .next (s.startFrom .start pins)
        else .next (({ s with lockMark := true, shelved := some s.ret, ret := Retained.locked } :
          State).startFrom .start pins)) ∧
    (∀ s : State, s.power = .stopped → ∀ l, s.transmitPin l = .marking) ∧
    (∀ (s : State) (c : Cause) (pins : Pins) (l : Line),
      (s.startFrom c pins).transmitPin l = .marking) ∧
    (∀ (s : State) (p : Port), (s.record p).state = .absent ∨ (s.record p).state = .loopback →
      s.transmitPin (.meter p) = .marking) ∧
    ∀ (s : State) (c : Cause) (pins : Pins),
      let t := s.startFrom c pins
      t.power = .running ∧ t.lockMark = s.lockMark ∧ t.shelved = s.shelved ∧
        t.checkWord = s.checkWord ∧ t.lost = false ∧ t.sampled = s.sampled ∧ t.pending = s.pending ∧
        t.host = HostUnit.atStart (speedOf pins) ∧
        (∀ p, t.record p = PortRecord.atStart (pins.marking.get p)) ∧
        (∀ p, t.mlu p = Mlu.atStart (pins.marking.get p)) ∧
        (∀ p, t.runOf p = none) ∧ t.ret.queue = [] ∧
        (∀ p, t.fundsOf p = if s.runOf p = none then s.fundsOf p else
          { s.fundsOf p with
            available := (s.fundsOf p).available + (s.fundsOf p).reserved, reserved := 0 }) ∧
        t.ret = { s.ret with runs := t.ret.runs, queue := t.ret.queue, funds := t.ret.funds } ∧
        t.notices.head? = some (.startup c s.lockMark
          (s.ret.runs.toList.filter Option.isSome).length) ∧
        (s.lockMark = true → t.notices.drop 1 = [.locked]) ∧
        (s.lockMark = false → t.notices.drop 1 = ([0, 1, 2, 3, 4, 5] : List Port).filterMap fun p =>
          match s.runOf p with
          | none => none
          | some r =>
            let printed := if r.state = .waiting then r.printed else r.granted
            some (.runend p r.id .restart r.pieces printed r.spoiled r.charge (r.granted * r.charge)))
end

