-- ==== Sys2Proof/Laws/Checks.lean ====
section
/-! SUPPORT. What each field check of a request or a record answers, and how a chain of checks is read. -/

namespace Sys2Proof.Machine

/-! ### Chains of checks -/

@[simp] theorem ok_bind {ε α β : Type} (a : α) (f : α → Except ε β) : (Except.ok a >>= f) = f a := rfl

@[simp] theorem error_bind {ε α β : Type} (e : ε) (f : α → Except ε β) :
    ((Except.error e : Except ε α) >>= f) = .error e := rfl

@[simp] theorem pure_eq_ok {ε α : Type} (a : α) : (pure a : Except ε α) = .ok a := rfl

/-- A chain of checks passes exactly when its first check passes and the rest does. -/
theorem bind_eq_ok {ε α β : Type} (x : Except ε α) (f : α → Except ε β) (b : β) :
    (x >>= f) = .ok b ↔ ∃ a, x = .ok a ∧ f a = .ok b := by
  cases x <;> simp

/-- What holds of the state that an accepted request leaves. -/
def Leaves (x : Answered) (P : State → Prop) : Prop := ∀ t r, x = .ok (t, r) → P t

theorem leaves_ok {P : State → Prop} {t : State} {r : HostReply} (h : P t) :
    Leaves (.ok (t, r)) P := by
  intro t' r' e
  cases e
  exact h

theorem leaves_error (P : State → Prop) (e : Refused) : Leaves (.error e) P := by
  intro t r h
  cases h

theorem leaves_refuse (P : State → Prop) (w : RefusalWord) (pos : Nat) : Leaves (refuse w pos) P :=
  leaves_error P _

theorem leaves_bind {α : Type} {x : Checked α} {f : α → Answered} {P : State → Prop}
    (h : ∀ a, x = .ok a → Leaves (f a) P) : Leaves (x >>= f) P := by
  intro t r e
  obtain ⟨a, ha, hf⟩ := (bind_eq_ok x f (t, r)).1 e
  exact h a ha t r hf

/-! ### The single checks -/

@[simp] theorem refuseIf_of_not {b : Prop} [Decidable b] (w : RefusalWord) (pos : Nat) (h : ¬b) :
    refuseIf b w pos = .ok () := by simp [refuseIf, h]

@[simp] theorem refuseIf_of {b : Prop} [Decidable b] (w : RefusalWord) (pos : Nat) (h : b) :
    refuseIf b w pos = .error ⟨w, pos, none⟩ := by simp [refuseIf, refuse, h]

@[simp] theorem refuseIf_eq_ok {b : Prop} [Decidable b] (w : RefusalWord) (pos : Nat) (u : Unit) :
    refuseIf b w pos = .ok u ↔ ¬b := by
  by_cases h : b <;> simp [refuseIf, refuse, h]

@[simp] theorem orRefuse_eq_ok {α : Type} (o : Option α) (w : RefusalWord) (pos : Nat) (a : α) :
    orRefuse o w pos = .ok a ↔ o = some a := by
  cases o <;> simp [orRefuse, refuse]

/-- A required number field passes exactly with its value (R153). -/
@[simp] theorem number_eq_ok (fs : List Text) (pos most n : Nat) :
    number fs pos most = .ok n ↔ readNumber most (fieldAt fs pos) = some n := by simp [number]

/-- A number field that fails its form is refused FORMAT at its position (R153). -/
theorem number_of_none {fs : List Text} {pos most : Nat}
    (h : readNumber most (fieldAt fs pos) = none) : number fs pos most = .error ⟨.format, pos, none⟩ := by
  simp [number, orRefuse, refuse, h]

/-- An empty field is no number (R153). -/
@[simp] theorem readNumber_nil (most : Nat) : readNumber most [] = none := by simp [readNumber]

/-- An optional number field passes empty, or with its value (R153). -/
@[simp] theorem optionalNumber_eq_ok (fs : List Text) (pos most : Nat) (o : Option Nat) :
    optionalNumber fs pos most = .ok o ↔
      (fieldAt fs pos = [] ∧ o = none) ∨
        ∃ n, readNumber most (fieldAt fs pos) = some n ∧ o = some n := by
  unfold optionalNumber
  by_cases h : fieldAt fs pos = []
  · simp [h, eq_comm]
  · simp only [h, if_false, false_and, false_or]
    cases readNumber most (fieldAt fs pos) <;> simp [refuse, eq_comm]

/-- A naming field passes exactly with what it names (R155). -/
@[simp] theorem named_eq_ok (size n pos : Nat) (i : Fin size) :
    named size n pos = .ok i ↔ n = i.val + 1 := by
  unfold named
  split
  · rename_i h
    simp only [Except.ok.injEq, Fin.ext_iff]
    omega
  · rename_i h
    have := i.isLt
    simp [refuse]
    omega

/-- A naming field out of range is refused RANGE at its position (R155). -/
theorem named_of_not {size n pos : Nat} (h : ¬(1 ≤ n ∧ n ≤ size)) :
    named size n pos = .error ⟨.range, pos, none⟩ := by simp [named, refuse, h]

@[simp] theorem wordField_eq_ok {α : Type} (read : Text → Option α) (fs : List Text) (pos : Nat)
    (a : α) : wordField read fs pos = .ok a ↔ fieldAt fs pos ≠ [] ∧ read (fieldAt fs pos) = some a := by
  unfold wordField
  by_cases h : fieldAt fs pos = [] <;> simp [h]

end Sys2Proof.Machine
end

