-- ==== Sys2Proof/Laws/Tables.lean ====
section
/-! SUPPORT. The tables of the part: reading an entry after one is stored, and a sum over the entries
after one is stored. -/

namespace Sys2Proof.Machine

/-- An entry read after one is stored. -/
theorem get_set {α : Type} {n : Nat} (v : Vector α n) (p q : Fin n) (x : α) :
    (v.set p x).get q = if q = p then x else v.get q := by
  simp [Vector.get_eq_getElem, Vector.getElem_set, Fin.ext_iff, eq_comm]

/-- Storing the entry that stands there changes nothing. -/
@[simp] theorem set_get {α : Type} {n : Nat} (v : Vector α n) (p : Fin n) : v.set p (v.get p) = v := by
  simp [Vector.get_eq_getElem]

/-- Storing twice in one place leaves the second. -/
@[simp] theorem set_set {α : Type} {n : Nat} (v : Vector α n) (p : Fin n) (x y : α) :
    (v.set p x).set p y = v.set p y := by
  ext i hi
  simp [Vector.getElem_set]

/-- The sum of a figure over a list after one entry is replaced. -/
theorem list_sum_map_set {α : Type} (f : α → Nat) (x : α) :
    ∀ (l : List α) (i : Nat) (h : i < l.length),
      ((l.set i x).map f).sum + f l[i] = (l.map f).sum + f x := by
  intro l
  induction l with
  | nil => intro i h; simp at h
  | cons a l ih =>
    intro i h
    cases i with
    | zero => simp; omega
    | succ i =>
      have := ih i (by simpa using h)
      simp only [List.set_cons_succ, List.map_cons, List.sum_cons, List.getElem_cons_succ]
      omega

/-- The sum of a figure over a table after one entry is stored. -/
theorem sumOver_set {α : Type} {n : Nat} (v : Vector α n) (i : Fin n) (x : α) (f : α → Nat) :
    sumOver (v.set i x) f + f (v.get i) = sumOver v f + f x := by
  have h := list_sum_map_set f x v.toList i (by simp)
  simpa [sumOver, Vector.get_eq_getElem, Vector.toList_set] using h

/-- An entry is at most the sum. -/
theorem le_sumOver {α : Type} {n : Nat} (v : Vector α n) (i : Fin n) (f : α → Nat) :
    f (v.get i) ≤ sumOver v f := by
  have h : f (v.get i) ∈ v.toList.map f := by
    simp only [List.mem_map]
    exact ⟨v.get i, by simp [Vector.get_eq_getElem], rfl⟩
  exact List.single_le_sum (fun _ _ => Nat.zero_le _) _ h

/-- Six values read by Port. -/
@[simp] theorem perPort_get {α : Type} (f : Port → α) (p : Port) : (perPort f).get p = f p := by
  fin_cases p <;> rfl

end Sys2Proof.Machine
end

