-- ==== Sys2Proof/Laws/State.lean ====
section
/-! SUPPORT. One lemma for each field and each update of the state, so that no later proof unfolds a
record update. -/

namespace Sys2Proof.Machine.State

open Sys2Proof.Machine


/-! ### setFunds -/

section

variable (s : State) (p : Port) (f : PortFunds)

@[simp] theorem setFunds_power : (s.setFunds p f).power = s.power := rfl
@[simp] theorem setFunds_pfail : (s.setFunds p f).pfail = s.pfail := rfl
@[simp] theorem setFunds_resetIn : (s.setFunds p f).resetIn = s.resetIn := rfl
@[simp] theorem setFunds_pins : (s.setFunds p f).pins = s.pins := rfl
@[simp] theorem setFunds_ret : (s.setFunds p f).ret = { s.ret with funds := s.ret.funds.set p f } := rfl
@[simp] theorem setFunds_shelved : (s.setFunds p f).shelved = s.shelved := rfl
@[simp] theorem setFunds_checkWord : (s.setFunds p f).checkWord = s.checkWord := rfl
@[simp] theorem setFunds_lockMark : (s.setFunds p f).lockMark = s.lockMark := rfl
@[simp] theorem setFunds_host : (s.setFunds p f).host = s.host := rfl
@[simp] theorem setFunds_records : (s.setFunds p f).records = s.records := rfl
@[simp] theorem setFunds_mlus : (s.setFunds p f).mlus = s.mlus := rfl
@[simp] theorem setFunds_notices : (s.setFunds p f).notices = s.notices := rfl
@[simp] theorem setFunds_lost : (s.setFunds p f).lost = s.lost := rfl
@[simp] theorem setFunds_sampled : (s.setFunds p f).sampled = s.sampled := rfl
@[simp] theorem setFunds_pending : (s.setFunds p f).pending = s.pending := rfl
@[simp] theorem setFunds_fundsOf (q : Port) :
    (s.setFunds p f).fundsOf q = if q = p then f else s.fundsOf q := get_set _ _ _ _
@[simp] theorem setFunds_setFunds (x : PortFunds) : (s.setFunds p f).setFunds p x = s.setFunds p x := by
  simp [setFunds]
@[simp] theorem setFunds_fundsOf_self : s.setFunds p (s.fundsOf p) = s := by
  simp [setFunds, fundsOf]
@[simp] theorem setFunds_runOf (q : Port) : (s.setFunds p f).runOf q = s.runOf q := rfl
@[simp] theorem setFunds_mlu (q : Port) : (s.setFunds p f).mlu q = s.mlu q := rfl
@[simp] theorem setFunds_record (q : Port) : (s.setFunds p f).record q = s.record q := rfl
@[simp] theorem setFunds_serialOf (q : Port) : (s.setFunds p f).serialOf q = s.serialOf q := rfl
@[simp] theorem setFunds_suspendedOf (q : Port) : (s.setFunds p f).suspendedOf q = s.suspendedOf q := rfl
@[simp] theorem setFunds_stockLine (q : Fin 24) : (s.setFunds p f).stockLine q = s.stockLine q := rfl

end

/-! ### setRun -/

section

variable (s : State) (p : Port) (r : Option Run)

@[simp] theorem setRun_power : (s.setRun p r).power = s.power := rfl
@[simp] theorem setRun_pfail : (s.setRun p r).pfail = s.pfail := rfl
@[simp] theorem setRun_resetIn : (s.setRun p r).resetIn = s.resetIn := rfl
@[simp] theorem setRun_pins : (s.setRun p r).pins = s.pins := rfl
@[simp] theorem setRun_ret : (s.setRun p r).ret = { s.ret with runs := s.ret.runs.set p r } := rfl
@[simp] theorem setRun_shelved : (s.setRun p r).shelved = s.shelved := rfl
@[simp] theorem setRun_checkWord : (s.setRun p r).checkWord = s.checkWord := rfl
@[simp] theorem setRun_lockMark : (s.setRun p r).lockMark = s.lockMark := rfl
@[simp] theorem setRun_host : (s.setRun p r).host = s.host := rfl
@[simp] theorem setRun_records : (s.setRun p r).records = s.records := rfl
@[simp] theorem setRun_mlus : (s.setRun p r).mlus = s.mlus := rfl
@[simp] theorem setRun_notices : (s.setRun p r).notices = s.notices := rfl
@[simp] theorem setRun_lost : (s.setRun p r).lost = s.lost := rfl
@[simp] theorem setRun_sampled : (s.setRun p r).sampled = s.sampled := rfl
@[simp] theorem setRun_pending : (s.setRun p r).pending = s.pending := rfl
@[simp] theorem setRun_fundsOf (q : Port) : (s.setRun p r).fundsOf q = s.fundsOf q := rfl
@[simp] theorem setRun_runOf (q : Port) :
    (s.setRun p r).runOf q = if q = p then r else s.runOf q := get_set _ _ _ _
@[simp] theorem setRun_setRun (x : Option Run) : (s.setRun p r).setRun p x = s.setRun p x := by
  simp [setRun]
@[simp] theorem setRun_runOf_self : s.setRun p (s.runOf p) = s := by
  simp [setRun, runOf]
@[simp] theorem setRun_mlu (q : Port) : (s.setRun p r).mlu q = s.mlu q := rfl
@[simp] theorem setRun_record (q : Port) : (s.setRun p r).record q = s.record q := rfl
@[simp] theorem setRun_serialOf (q : Port) : (s.setRun p r).serialOf q = s.serialOf q := rfl
@[simp] theorem setRun_suspendedOf (q : Port) : (s.setRun p r).suspendedOf q = s.suspendedOf q := rfl
@[simp] theorem setRun_stockLine (q : Fin 24) : (s.setRun p r).stockLine q = s.stockLine q := rfl

end

/-! ### setPool -/

section

variable (s : State) (n : Nat)

@[simp] theorem setPool_power : (s.setPool n).power = s.power := rfl
@[simp] theorem setPool_pfail : (s.setPool n).pfail = s.pfail := rfl
@[simp] theorem setPool_resetIn : (s.setPool n).resetIn = s.resetIn := rfl
@[simp] theorem setPool_pins : (s.setPool n).pins = s.pins := rfl
@[simp] theorem setPool_ret : (s.setPool n).ret = { s.ret with pool := n } := rfl
@[simp] theorem setPool_shelved : (s.setPool n).shelved = s.shelved := rfl
@[simp] theorem setPool_checkWord : (s.setPool n).checkWord = s.checkWord := rfl
@[simp] theorem setPool_lockMark : (s.setPool n).lockMark = s.lockMark := rfl
@[simp] theorem setPool_host : (s.setPool n).host = s.host := rfl
@[simp] theorem setPool_records : (s.setPool n).records = s.records := rfl
@[simp] theorem setPool_mlus : (s.setPool n).mlus = s.mlus := rfl
@[simp] theorem setPool_notices : (s.setPool n).notices = s.notices := rfl
@[simp] theorem setPool_lost : (s.setPool n).lost = s.lost := rfl
@[simp] theorem setPool_sampled : (s.setPool n).sampled = s.sampled := rfl
@[simp] theorem setPool_pending : (s.setPool n).pending = s.pending := rfl
@[simp] theorem setPool_fundsOf (q : Port) : (s.setPool n).fundsOf q = s.fundsOf q := rfl
@[simp] theorem setPool_runOf (q : Port) : (s.setPool n).runOf q = s.runOf q := rfl
@[simp] theorem setPool_mlu (q : Port) : (s.setPool n).mlu q = s.mlu q := rfl
@[simp] theorem setPool_record (q : Port) : (s.setPool n).record q = s.record q := rfl
@[simp] theorem setPool_serialOf (q : Port) : (s.setPool n).serialOf q = s.serialOf q := rfl
@[simp] theorem setPool_suspendedOf (q : Port) : (s.setPool n).suspendedOf q = s.suspendedOf q := rfl
@[simp] theorem setPool_stockLine (q : Fin 24) : (s.setPool n).stockLine q = s.stockLine q := rfl

end

/-! ### setQueue -/

section

variable (s : State) (l : List Port)

@[simp] theorem setQueue_power : (s.setQueue l).power = s.power := rfl
@[simp] theorem setQueue_pfail : (s.setQueue l).pfail = s.pfail := rfl
@[simp] theorem setQueue_resetIn : (s.setQueue l).resetIn = s.resetIn := rfl
@[simp] theorem setQueue_pins : (s.setQueue l).pins = s.pins := rfl
@[simp] theorem setQueue_ret : (s.setQueue l).ret = { s.ret with queue := l } := rfl
@[simp] theorem setQueue_shelved : (s.setQueue l).shelved = s.shelved := rfl
@[simp] theorem setQueue_checkWord : (s.setQueue l).checkWord = s.checkWord := rfl
@[simp] theorem setQueue_lockMark : (s.setQueue l).lockMark = s.lockMark := rfl
@[simp] theorem setQueue_host : (s.setQueue l).host = s.host := rfl
@[simp] theorem setQueue_records : (s.setQueue l).records = s.records := rfl
@[simp] theorem setQueue_mlus : (s.setQueue l).mlus = s.mlus := rfl
@[simp] theorem setQueue_notices : (s.setQueue l).notices = s.notices := rfl
@[simp] theorem setQueue_lost : (s.setQueue l).lost = s.lost := rfl
@[simp] theorem setQueue_sampled : (s.setQueue l).sampled = s.sampled := rfl
@[simp] theorem setQueue_pending : (s.setQueue l).pending = s.pending := rfl
@[simp] theorem setQueue_fundsOf (q : Port) : (s.setQueue l).fundsOf q = s.fundsOf q := rfl
@[simp] theorem setQueue_runOf (q : Port) : (s.setQueue l).runOf q = s.runOf q := rfl
@[simp] theorem setQueue_mlu (q : Port) : (s.setQueue l).mlu q = s.mlu q := rfl
@[simp] theorem setQueue_record (q : Port) : (s.setQueue l).record q = s.record q := rfl
@[simp] theorem setQueue_serialOf (q : Port) : (s.setQueue l).serialOf q = s.serialOf q := rfl
@[simp] theorem setQueue_suspendedOf (q : Port) : (s.setQueue l).suspendedOf q = s.suspendedOf q := rfl
@[simp] theorem setQueue_stockLine (q : Fin 24) : (s.setQueue l).stockLine q = s.stockLine q := rfl

end

/-! ### setRunId -/

section

variable (s : State) (p : Port) (n : Nat)

@[simp] theorem setRunId_power : (s.setRunId p n).power = s.power := rfl
@[simp] theorem setRunId_pfail : (s.setRunId p n).pfail = s.pfail := rfl
@[simp] theorem setRunId_resetIn : (s.setRunId p n).resetIn = s.resetIn := rfl
@[simp] theorem setRunId_pins : (s.setRunId p n).pins = s.pins := rfl
@[simp] theorem setRunId_ret : (s.setRunId p n).ret = { s.ret with runIds := s.ret.runIds.set p n } := rfl
@[simp] theorem setRunId_shelved : (s.setRunId p n).shelved = s.shelved := rfl
@[simp] theorem setRunId_checkWord : (s.setRunId p n).checkWord = s.checkWord := rfl
@[simp] theorem setRunId_lockMark : (s.setRunId p n).lockMark = s.lockMark := rfl
@[simp] theorem setRunId_host : (s.setRunId p n).host = s.host := rfl
@[simp] theorem setRunId_records : (s.setRunId p n).records = s.records := rfl
@[simp] theorem setRunId_mlus : (s.setRunId p n).mlus = s.mlus := rfl
@[simp] theorem setRunId_notices : (s.setRunId p n).notices = s.notices := rfl
@[simp] theorem setRunId_lost : (s.setRunId p n).lost = s.lost := rfl
@[simp] theorem setRunId_sampled : (s.setRunId p n).sampled = s.sampled := rfl
@[simp] theorem setRunId_pending : (s.setRunId p n).pending = s.pending := rfl
@[simp] theorem setRunId_fundsOf (q : Port) : (s.setRunId p n).fundsOf q = s.fundsOf q := rfl
@[simp] theorem setRunId_runOf (q : Port) : (s.setRunId p n).runOf q = s.runOf q := rfl
@[simp] theorem setRunId_mlu (q : Port) : (s.setRunId p n).mlu q = s.mlu q := rfl
@[simp] theorem setRunId_record (q : Port) : (s.setRunId p n).record q = s.record q := rfl
@[simp] theorem setRunId_serialOf (q : Port) : (s.setRunId p n).serialOf q = s.serialOf q := rfl
@[simp] theorem setRunId_suspendedOf (q : Port) : (s.setRunId p n).suspendedOf q = s.suspendedOf q := rfl
@[simp] theorem setRunId_stockLine (q : Fin 24) : (s.setRunId p n).stockLine q = s.stockLine q := rfl

end

/-! ### setNext -/

section

variable (s : State) (t : RateTable)

@[simp] theorem setNext_power : (s.setNext t).power = s.power := rfl
@[simp] theorem setNext_pfail : (s.setNext t).pfail = s.pfail := rfl
@[simp] theorem setNext_resetIn : (s.setNext t).resetIn = s.resetIn := rfl
@[simp] theorem setNext_pins : (s.setNext t).pins = s.pins := rfl
@[simp] theorem setNext_ret : (s.setNext t).ret = { s.ret with next := t } := rfl
@[simp] theorem setNext_shelved : (s.setNext t).shelved = s.shelved := rfl
@[simp] theorem setNext_checkWord : (s.setNext t).checkWord = s.checkWord := rfl
@[simp] theorem setNext_lockMark : (s.setNext t).lockMark = s.lockMark := rfl
@[simp] theorem setNext_host : (s.setNext t).host = s.host := rfl
@[simp] theorem setNext_records : (s.setNext t).records = s.records := rfl
@[simp] theorem setNext_mlus : (s.setNext t).mlus = s.mlus := rfl
@[simp] theorem setNext_notices : (s.setNext t).notices = s.notices := rfl
@[simp] theorem setNext_lost : (s.setNext t).lost = s.lost := rfl
@[simp] theorem setNext_sampled : (s.setNext t).sampled = s.sampled := rfl
@[simp] theorem setNext_pending : (s.setNext t).pending = s.pending := rfl
@[simp] theorem setNext_fundsOf (q : Port) : (s.setNext t).fundsOf q = s.fundsOf q := rfl
@[simp] theorem setNext_runOf (q : Port) : (s.setNext t).runOf q = s.runOf q := rfl
@[simp] theorem setNext_mlu (q : Port) : (s.setNext t).mlu q = s.mlu q := rfl
@[simp] theorem setNext_record (q : Port) : (s.setNext t).record q = s.record q := rfl
@[simp] theorem setNext_serialOf (q : Port) : (s.setNext t).serialOf q = s.serialOf q := rfl
@[simp] theorem setNext_suspendedOf (q : Port) : (s.setNext t).suspendedOf q = s.suspendedOf q := rfl
@[simp] theorem setNext_stockLine (q : Fin 24) : (s.setNext t).stockLine q = s.stockLine q := rfl

end

/-! ### setStockLine -/

section

variable (s : State) (i : Fin 24) (l : StockLine)

@[simp] theorem setStockLine_power : (s.setStockLine i l).power = s.power := rfl
@[simp] theorem setStockLine_pfail : (s.setStockLine i l).pfail = s.pfail := rfl
@[simp] theorem setStockLine_resetIn : (s.setStockLine i l).resetIn = s.resetIn := rfl
@[simp] theorem setStockLine_pins : (s.setStockLine i l).pins = s.pins := rfl
@[simp] theorem setStockLine_ret : (s.setStockLine i l).ret = { s.ret with stock := s.ret.stock.set i l } := rfl
@[simp] theorem setStockLine_shelved : (s.setStockLine i l).shelved = s.shelved := rfl
@[simp] theorem setStockLine_checkWord : (s.setStockLine i l).checkWord = s.checkWord := rfl
@[simp] theorem setStockLine_lockMark : (s.setStockLine i l).lockMark = s.lockMark := rfl
@[simp] theorem setStockLine_host : (s.setStockLine i l).host = s.host := rfl
@[simp] theorem setStockLine_records : (s.setStockLine i l).records = s.records := rfl
@[simp] theorem setStockLine_mlus : (s.setStockLine i l).mlus = s.mlus := rfl
@[simp] theorem setStockLine_notices : (s.setStockLine i l).notices = s.notices := rfl
@[simp] theorem setStockLine_lost : (s.setStockLine i l).lost = s.lost := rfl
@[simp] theorem setStockLine_sampled : (s.setStockLine i l).sampled = s.sampled := rfl
@[simp] theorem setStockLine_pending : (s.setStockLine i l).pending = s.pending := rfl
@[simp] theorem setStockLine_fundsOf (q : Port) : (s.setStockLine i l).fundsOf q = s.fundsOf q := rfl
@[simp] theorem setStockLine_runOf (q : Port) : (s.setStockLine i l).runOf q = s.runOf q := rfl
@[simp] theorem setStockLine_mlu (q : Port) : (s.setStockLine i l).mlu q = s.mlu q := rfl
@[simp] theorem setStockLine_record (q : Port) : (s.setStockLine i l).record q = s.record q := rfl
@[simp] theorem setStockLine_serialOf (q : Port) : (s.setStockLine i l).serialOf q = s.serialOf q := rfl
@[simp] theorem setStockLine_suspendedOf (q : Port) : (s.setStockLine i l).suspendedOf q = s.suspendedOf q := rfl
@[simp] theorem setStockLine_stockLine (q : Fin 24) :
    (s.setStockLine i l).stockLine q = if q = i then l else s.stockLine q := get_set _ _ _ _
@[simp] theorem setStockLine_setStockLine (x : StockLine) : (s.setStockLine i l).setStockLine i x = s.setStockLine i x := by
  simp [setStockLine]
@[simp] theorem setStockLine_stockLine_self : s.setStockLine i (s.stockLine i) = s := by
  simp [setStockLine, stockLine]

end

/-! ### setOffer -/

section

variable (s : State) (o : Offer)

@[simp] theorem setOffer_power : (s.setOffer o).power = s.power := rfl
@[simp] theorem setOffer_pfail : (s.setOffer o).pfail = s.pfail := rfl
@[simp] theorem setOffer_resetIn : (s.setOffer o).resetIn = s.resetIn := rfl
@[simp] theorem setOffer_pins : (s.setOffer o).pins = s.pins := rfl
@[simp] theorem setOffer_ret : (s.setOffer o).ret = { s.ret with offer := o } := rfl
@[simp] theorem setOffer_shelved : (s.setOffer o).shelved = s.shelved := rfl
@[simp] theorem setOffer_checkWord : (s.setOffer o).checkWord = s.checkWord := rfl
@[simp] theorem setOffer_lockMark : (s.setOffer o).lockMark = s.lockMark := rfl
@[simp] theorem setOffer_host : (s.setOffer o).host = s.host := rfl
@[simp] theorem setOffer_records : (s.setOffer o).records = s.records := rfl
@[simp] theorem setOffer_mlus : (s.setOffer o).mlus = s.mlus := rfl
@[simp] theorem setOffer_notices : (s.setOffer o).notices = s.notices := rfl
@[simp] theorem setOffer_lost : (s.setOffer o).lost = s.lost := rfl
@[simp] theorem setOffer_sampled : (s.setOffer o).sampled = s.sampled := rfl
@[simp] theorem setOffer_pending : (s.setOffer o).pending = s.pending := rfl
@[simp] theorem setOffer_fundsOf (q : Port) : (s.setOffer o).fundsOf q = s.fundsOf q := rfl
@[simp] theorem setOffer_runOf (q : Port) : (s.setOffer o).runOf q = s.runOf q := rfl
@[simp] theorem setOffer_mlu (q : Port) : (s.setOffer o).mlu q = s.mlu q := rfl
@[simp] theorem setOffer_record (q : Port) : (s.setOffer o).record q = s.record q := rfl
@[simp] theorem setOffer_serialOf (q : Port) : (s.setOffer o).serialOf q = s.serialOf q := rfl
@[simp] theorem setOffer_suspendedOf (q : Port) : (s.setOffer o).suspendedOf q = s.suspendedOf q := rfl
@[simp] theorem setOffer_stockLine (q : Fin 24) : (s.setOffer o).stockLine q = s.stockLine q := rfl

end

/-! ### setSuspended -/

section

variable (s : State) (p : Port) (b : Bool)

@[simp] theorem setSuspended_power : (s.setSuspended p b).power = s.power := rfl
@[simp] theorem setSuspended_pfail : (s.setSuspended p b).pfail = s.pfail := rfl
@[simp] theorem setSuspended_resetIn : (s.setSuspended p b).resetIn = s.resetIn := rfl
@[simp] theorem setSuspended_pins : (s.setSuspended p b).pins = s.pins := rfl
@[simp] theorem setSuspended_ret : (s.setSuspended p b).ret = { s.ret with suspended := s.ret.suspended.set p b } := rfl
@[simp] theorem setSuspended_shelved : (s.setSuspended p b).shelved = s.shelved := rfl
@[simp] theorem setSuspended_checkWord : (s.setSuspended p b).checkWord = s.checkWord := rfl
@[simp] theorem setSuspended_lockMark : (s.setSuspended p b).lockMark = s.lockMark := rfl
@[simp] theorem setSuspended_host : (s.setSuspended p b).host = s.host := rfl
@[simp] theorem setSuspended_records : (s.setSuspended p b).records = s.records := rfl
@[simp] theorem setSuspended_mlus : (s.setSuspended p b).mlus = s.mlus := rfl
@[simp] theorem setSuspended_notices : (s.setSuspended p b).notices = s.notices := rfl
@[simp] theorem setSuspended_lost : (s.setSuspended p b).lost = s.lost := rfl
@[simp] theorem setSuspended_sampled : (s.setSuspended p b).sampled = s.sampled := rfl
@[simp] theorem setSuspended_pending : (s.setSuspended p b).pending = s.pending := rfl
@[simp] theorem setSuspended_fundsOf (q : Port) : (s.setSuspended p b).fundsOf q = s.fundsOf q := rfl
@[simp] theorem setSuspended_runOf (q : Port) : (s.setSuspended p b).runOf q = s.runOf q := rfl
@[simp] theorem setSuspended_mlu (q : Port) : (s.setSuspended p b).mlu q = s.mlu q := rfl
@[simp] theorem setSuspended_record (q : Port) : (s.setSuspended p b).record q = s.record q := rfl
@[simp] theorem setSuspended_serialOf (q : Port) : (s.setSuspended p b).serialOf q = s.serialOf q := rfl
@[simp] theorem setSuspended_suspendedOf (q : Port) :
    (s.setSuspended p b).suspendedOf q = if q = p then b else s.suspendedOf q := get_set _ _ _ _
@[simp] theorem setSuspended_suspendedOf_self : s.setSuspended p (s.suspendedOf p) = s := by
  simp [setSuspended, suspendedOf]
@[simp] theorem setSuspended_stockLine (q : Fin 24) : (s.setSuspended p b).stockLine q = s.stockLine q := rfl

end

/-! ### setMlu -/

section

variable (s : State) (p : Port) (m : Mlu)

@[simp] theorem setMlu_power : (s.setMlu p m).power = s.power := rfl
@[simp] theorem setMlu_pfail : (s.setMlu p m).pfail = s.pfail := rfl
@[simp] theorem setMlu_resetIn : (s.setMlu p m).resetIn = s.resetIn := rfl
@[simp] theorem setMlu_pins : (s.setMlu p m).pins = s.pins := rfl
@[simp] theorem setMlu_ret : (s.setMlu p m).ret = s.ret := rfl
@[simp] theorem setMlu_shelved : (s.setMlu p m).shelved = s.shelved := rfl
@[simp] theorem setMlu_checkWord : (s.setMlu p m).checkWord = s.checkWord := rfl
@[simp] theorem setMlu_lockMark : (s.setMlu p m).lockMark = s.lockMark := rfl
@[simp] theorem setMlu_host : (s.setMlu p m).host = s.host := rfl
@[simp] theorem setMlu_records : (s.setMlu p m).records = s.records := rfl
@[simp] theorem setMlu_mlus : (s.setMlu p m).mlus = s.mlus.set p m := rfl
@[simp] theorem setMlu_notices : (s.setMlu p m).notices = s.notices := rfl
@[simp] theorem setMlu_lost : (s.setMlu p m).lost = s.lost := rfl
@[simp] theorem setMlu_sampled : (s.setMlu p m).sampled = s.sampled := rfl
@[simp] theorem setMlu_pending : (s.setMlu p m).pending = s.pending := rfl
@[simp] theorem setMlu_fundsOf (q : Port) : (s.setMlu p m).fundsOf q = s.fundsOf q := rfl
@[simp] theorem setMlu_runOf (q : Port) : (s.setMlu p m).runOf q = s.runOf q := rfl
@[simp] theorem setMlu_mlu (q : Port) :
    (s.setMlu p m).mlu q = if q = p then m else s.mlu q := get_set _ _ _ _
@[simp] theorem setMlu_setMlu (x : Mlu) : (s.setMlu p m).setMlu p x = s.setMlu p x := by
  simp [setMlu]
@[simp] theorem setMlu_mlu_self : s.setMlu p (s.mlu p) = s := by
  simp [setMlu, mlu]
@[simp] theorem setMlu_record (q : Port) : (s.setMlu p m).record q = s.record q := rfl
@[simp] theorem setMlu_serialOf (q : Port) : (s.setMlu p m).serialOf q = s.serialOf q := rfl
@[simp] theorem setMlu_suspendedOf (q : Port) : (s.setMlu p m).suspendedOf q = s.suspendedOf q := rfl
@[simp] theorem setMlu_stockLine (q : Fin 24) : (s.setMlu p m).stockLine q = s.stockLine q := rfl

end

/-! ### setRecord -/

section

variable (s : State) (p : Port) (r : PortRecord)

@[simp] theorem setRecord_power : (s.setRecord p r).power = s.power := rfl
@[simp] theorem setRecord_pfail : (s.setRecord p r).pfail = s.pfail := rfl
@[simp] theorem setRecord_resetIn : (s.setRecord p r).resetIn = s.resetIn := rfl
@[simp] theorem setRecord_pins : (s.setRecord p r).pins = s.pins := rfl
@[simp] theorem setRecord_ret : (s.setRecord p r).ret = s.ret := rfl
@[simp] theorem setRecord_shelved : (s.setRecord p r).shelved = s.shelved := rfl
@[simp] theorem setRecord_checkWord : (s.setRecord p r).checkWord = s.checkWord := rfl
@[simp] theorem setRecord_lockMark : (s.setRecord p r).lockMark = s.lockMark := rfl
@[simp] theorem setRecord_host : (s.setRecord p r).host = s.host := rfl
@[simp] theorem setRecord_records : (s.setRecord p r).records = s.records.set p r := rfl
@[simp] theorem setRecord_mlus : (s.setRecord p r).mlus = s.mlus := rfl
@[simp] theorem setRecord_notices : (s.setRecord p r).notices = s.notices := rfl
@[simp] theorem setRecord_lost : (s.setRecord p r).lost = s.lost := rfl
@[simp] theorem setRecord_sampled : (s.setRecord p r).sampled = s.sampled := rfl
@[simp] theorem setRecord_pending : (s.setRecord p r).pending = s.pending := rfl
@[simp] theorem setRecord_fundsOf (q : Port) : (s.setRecord p r).fundsOf q = s.fundsOf q := rfl
@[simp] theorem setRecord_runOf (q : Port) : (s.setRecord p r).runOf q = s.runOf q := rfl
@[simp] theorem setRecord_mlu (q : Port) : (s.setRecord p r).mlu q = s.mlu q := rfl
@[simp] theorem setRecord_record (q : Port) :
    (s.setRecord p r).record q = if q = p then r else s.record q := get_set _ _ _ _
@[simp] theorem setRecord_setRecord (x : PortRecord) : (s.setRecord p r).setRecord p x = s.setRecord p x := by
  simp [setRecord]
@[simp] theorem setRecord_record_self : s.setRecord p (s.record p) = s := by
  simp [setRecord, record]
@[simp] theorem setRecord_serialOf (q : Port) : (s.setRecord p r).serialOf q = s.serialOf q := rfl
@[simp] theorem setRecord_suspendedOf (q : Port) : (s.setRecord p r).suspendedOf q = s.suspendedOf q := rfl
@[simp] theorem setRecord_stockLine (q : Fin 24) : (s.setRecord p r).stockLine q = s.stockLine q := rfl

end

/-! ### setHost -/

section

variable (s : State) (h : HostUnit)

@[simp] theorem setHost_power : (s.setHost h).power = s.power := rfl
@[simp] theorem setHost_pfail : (s.setHost h).pfail = s.pfail := rfl
@[simp] theorem setHost_resetIn : (s.setHost h).resetIn = s.resetIn := rfl
@[simp] theorem setHost_pins : (s.setHost h).pins = s.pins := rfl
@[simp] theorem setHost_ret : (s.setHost h).ret = s.ret := rfl
@[simp] theorem setHost_shelved : (s.setHost h).shelved = s.shelved := rfl
@[simp] theorem setHost_checkWord : (s.setHost h).checkWord = s.checkWord := rfl
@[simp] theorem setHost_lockMark : (s.setHost h).lockMark = s.lockMark := rfl
@[simp] theorem setHost_host : (s.setHost h).host = h := rfl
@[simp] theorem setHost_records : (s.setHost h).records = s.records := rfl
@[simp] theorem setHost_mlus : (s.setHost h).mlus = s.mlus := rfl
@[simp] theorem setHost_notices : (s.setHost h).notices = s.notices := rfl
@[simp] theorem setHost_lost : (s.setHost h).lost = s.lost := rfl
@[simp] theorem setHost_sampled : (s.setHost h).sampled = s.sampled := rfl
@[simp] theorem setHost_pending : (s.setHost h).pending = s.pending := rfl
@[simp] theorem setHost_fundsOf (q : Port) : (s.setHost h).fundsOf q = s.fundsOf q := rfl
@[simp] theorem setHost_runOf (q : Port) : (s.setHost h).runOf q = s.runOf q := rfl
@[simp] theorem setHost_mlu (q : Port) : (s.setHost h).mlu q = s.mlu q := rfl
@[simp] theorem setHost_record (q : Port) : (s.setHost h).record q = s.record q := rfl
@[simp] theorem setHost_serialOf (q : Port) : (s.setHost h).serialOf q = s.serialOf q := rfl
@[simp] theorem setHost_suspendedOf (q : Port) : (s.setHost h).suspendedOf q = s.suspendedOf q := rfl
@[simp] theorem setHost_stockLine (q : Fin 24) : (s.setHost h).stockLine q = s.stockLine q := rfl

end

/-! ### setMarking -/

section

variable (s : State) (p : Port) (b : Bool)

@[simp] theorem setMarking_power : (s.setMarking p b).power = s.power := rfl
@[simp] theorem setMarking_pfail : (s.setMarking p b).pfail = s.pfail := rfl
@[simp] theorem setMarking_resetIn : (s.setMarking p b).resetIn = s.resetIn := rfl
@[simp] theorem setMarking_pins : (s.setMarking p b).pins = { s.pins with marking := s.pins.marking.set p b } := rfl
@[simp] theorem setMarking_ret : (s.setMarking p b).ret = s.ret := rfl
@[simp] theorem setMarking_shelved : (s.setMarking p b).shelved = s.shelved := rfl
@[simp] theorem setMarking_checkWord : (s.setMarking p b).checkWord = s.checkWord := rfl
@[simp] theorem setMarking_lockMark : (s.setMarking p b).lockMark = s.lockMark := rfl
@[simp] theorem setMarking_host : (s.setMarking p b).host = s.host := rfl
@[simp] theorem setMarking_records : (s.setMarking p b).records = s.records := rfl
@[simp] theorem setMarking_mlus : (s.setMarking p b).mlus = s.mlus := rfl
@[simp] theorem setMarking_notices : (s.setMarking p b).notices = s.notices := rfl
@[simp] theorem setMarking_lost : (s.setMarking p b).lost = s.lost := rfl
@[simp] theorem setMarking_sampled : (s.setMarking p b).sampled = s.sampled := rfl
@[simp] theorem setMarking_pending : (s.setMarking p b).pending = s.pending := rfl
@[simp] theorem setMarking_fundsOf (q : Port) : (s.setMarking p b).fundsOf q = s.fundsOf q := rfl
@[simp] theorem setMarking_runOf (q : Port) : (s.setMarking p b).runOf q = s.runOf q := rfl
@[simp] theorem setMarking_mlu (q : Port) : (s.setMarking p b).mlu q = s.mlu q := rfl
@[simp] theorem setMarking_record (q : Port) : (s.setMarking p b).record q = s.record q := rfl
@[simp] theorem setMarking_serialOf (q : Port) : (s.setMarking p b).serialOf q = s.serialOf q := rfl
@[simp] theorem setMarking_suspendedOf (q : Port) : (s.setMarking p b).suspendedOf q = s.suspendedOf q := rfl
@[simp] theorem setMarking_stockLine (q : Fin 24) : (s.setMarking p b).stockLine q = s.stockLine q := rfl

end

end Sys2Proof.Machine.State
end

