-- ==== Sys2Proof/Laws/Ops.lean ====
section
/-! SUPPORT. What the shared operations of the accounts and of the meter lines leave alone: the power
state, the pins, Retained Memory's own marks, the Host Line Unit, the count of restarts and the queue of
commands; and what a
meter line has received. -/

namespace Sys2Proof.Machine

/-! ### What stands outside the accounts and the meter lines -/

/-- The fields that no operation of the accounts or of a meter line's transmitter writes. -/
structure Outside where
  power : Power
  pfail : Bool
  resetIn : Bool
  pins : Pins
  shelved : Option Retained
  checkWord : Option (BitVec 16)
  lockMark : Bool
  host : HostUnit
  sampled : Nat
  pending : List Instr

/-- The fields of a state that stand outside the accounts and the meter lines. -/
def State.outside (s : State) : Outside :=
  ⟨s.power, s.pfail, s.resetIn, s.pins, s.shelved, s.checkWord, s.lockMark, s.host, s.sampled,
    s.pending⟩

/-- What a meter line has received: its receiver, its queued frames and its line-up flag. -/
def State.received (s : State) (q : Port) : Receiver × List Frame × Bool :=
  ((s.mlu q).rx, (s.mlu q).inputs, (s.mlu q).lineUp)

namespace State

variable (s : State) (p : Port)

theorem outside_host {s t : State} (h : t.outside = s.outside) : t.host = s.host :=
  congrArg Outside.host h

theorem outside_power {s t : State} (h : t.outside = s.outside) : t.power = s.power :=
  congrArg Outside.power h

theorem outside_lockMark {s t : State} (h : t.outside = s.outside) : t.lockMark = s.lockMark :=
  congrArg Outside.lockMark h

theorem outside_pending {s t : State} (h : t.outside = s.outside) : t.pending = s.pending :=
  congrArg Outside.pending h

/-! ### Single updates -/

@[simp] theorem setFunds_outside (f : PortFunds) : (s.setFunds p f).outside = s.outside := rfl
@[simp] theorem setRun_outside (r : Option Run) : (s.setRun p r).outside = s.outside := rfl
@[simp] theorem setPool_outside (n : Nat) : (s.setPool n).outside = s.outside := rfl
@[simp] theorem setQueue_outside (l : List Port) : (s.setQueue l).outside = s.outside := rfl
@[simp] theorem setRunId_outside (n : Nat) : (s.setRunId p n).outside = s.outside := rfl
@[simp] theorem setNext_outside (t : RateTable) : (s.setNext t).outside = s.outside := rfl
@[simp] theorem setStockLine_outside (i : Fin 24) (l : StockLine) :
    (s.setStockLine i l).outside = s.outside := rfl
@[simp] theorem setOffer_outside (o : Offer) : (s.setOffer o).outside = s.outside := rfl
@[simp] theorem setSuspended_outside (b : Bool) : (s.setSuspended p b).outside = s.outside := rfl
@[simp] theorem setMlu_outside (m : Mlu) : (s.setMlu p m).outside = s.outside := rfl
@[simp] theorem setRecord_outside (r : PortRecord) : (s.setRecord p r).outside = s.outside := rfl

@[simp] theorem setFunds_received (f : PortFunds) (q : Port) :
    (s.setFunds p f).received q = s.received q := rfl
@[simp] theorem setRun_received (r : Option Run) (q : Port) :
    (s.setRun p r).received q = s.received q := rfl
@[simp] theorem setPool_received (n : Nat) (q : Port) : (s.setPool n).received q = s.received q := rfl
@[simp] theorem setQueue_received (l : List Port) (q : Port) :
    (s.setQueue l).received q = s.received q := rfl
@[simp] theorem setRunId_received (n : Nat) (q : Port) :
    (s.setRunId p n).received q = s.received q := rfl
@[simp] theorem setRecord_received (r : PortRecord) (q : Port) :
    (s.setRecord p r).received q = s.received q := rfl

/-- A Meter Line Unit stored with the same receiver, queue and flag has received what it had. -/
theorem setMlu_received (m : Mlu) (h : (m.rx, m.inputs, m.lineUp) = s.received p) (q : Port) :
    (s.setMlu p m).received q = s.received q := by
  by_cases e : q = p
  · subst e
    simpa [received] using h
  · simp [received, e]

/-! ### Notices and latched conditions (R121, R161) -/

section

variable (n : Notice) (c : Condition) (q : Port)

@[simp] theorem post_outside : (s.post n).outside = s.outside := by unfold post; split <;> rfl
@[simp] theorem post_received : (s.post n).received q = s.received q := by unfold post; split <;> rfl
@[simp] theorem post_ret : (s.post n).ret = s.ret := by unfold post; split <;> rfl
@[simp] theorem post_power : (s.post n).power = s.power := by unfold post; split <;> rfl
@[simp] theorem post_lockMark : (s.post n).lockMark = s.lockMark := by unfold post; split <;> rfl
@[simp] theorem post_host : (s.post n).host = s.host := by unfold post; split <;> rfl
@[simp] theorem post_records : (s.post n).records = s.records := by unfold post; split <;> rfl
@[simp] theorem post_mlus : (s.post n).mlus = s.mlus := by unfold post; split <;> rfl
@[simp] theorem post_pending : (s.post n).pending = s.pending := by unfold post; split <;> rfl
@[simp] theorem post_fundsOf : (s.post n).fundsOf q = s.fundsOf q := by unfold post; split <;> rfl
@[simp] theorem post_runOf : (s.post n).runOf q = s.runOf q := by unfold post; split <;> rfl
@[simp] theorem post_mlu : (s.post n).mlu q = s.mlu q := by unfold post; split <;> rfl
@[simp] theorem post_record : (s.post n).record q = s.record q := by unfold post; split <;> rfl
@[simp] theorem post_serialOf : (s.post n).serialOf q = s.serialOf q := by
  unfold post; split <;> rfl

/-- The queue holds at most 32 Notices after a post if it did before (R160, R161). -/
theorem post_notices_length (h : s.notices.length ≤ Config.noticeMax) :
    (s.post n).notices.length ≤ Config.noticeMax := by
  unfold post
  split
  · simp; omega
  · simp [Config.noticeMax] at *; omega

@[simp] theorem latch_outside : (s.latch p c).outside = s.outside := rfl
@[simp] theorem latch_received : (s.latch p c).received q = s.received q := rfl
@[simp] theorem latch_ret : (s.latch p c).ret = s.ret := rfl
@[simp] theorem latch_host : (s.latch p c).host = s.host := rfl
@[simp] theorem latch_mlus : (s.latch p c).mlus = s.mlus := rfl
@[simp] theorem latch_notices : (s.latch p c).notices = s.notices := rfl
@[simp] theorem latch_fundsOf : (s.latch p c).fundsOf q = s.fundsOf q := rfl
@[simp] theorem latch_runOf : (s.latch p c).runOf q = s.runOf q := rfl
@[simp] theorem latch_mlu : (s.latch p c).mlu q = s.mlu q := rfl

/-- A latch changes the latched set of its Port alone (R121). -/
@[simp] theorem latch_record :
    (s.latch p c).record q =
      if q = p then { s.record p with latched := (s.record p).latched.add c } else s.record q := by
  simp [latch]

@[simp] theorem latchIf_outside (b : Bool) : (s.latchIf b p c).outside = s.outside := by
  cases b <;> rfl
@[simp] theorem latchIf_received (b : Bool) : (s.latchIf b p c).received q = s.received q := by
  cases b <;> rfl
@[simp] theorem latchIf_ret (b : Bool) : (s.latchIf b p c).ret = s.ret := by cases b <;> rfl
@[simp] theorem latchIf_fundsOf (b : Bool) : (s.latchIf b p c).fundsOf q = s.fundsOf q := by
  cases b <;> rfl
@[simp] theorem latchIf_runOf (b : Bool) : (s.latchIf b p c).runOf q = s.runOf q := by
  cases b <;> rfl
@[simp] theorem latchIf_mlu (b : Bool) : (s.latchIf b p c).mlu q = s.mlu q := by
  cases b <;> rfl

@[simp] theorem latchLineError_outside (r : FaultReason) :
    (s.latchLineError p r).outside = s.outside := rfl
@[simp] theorem latchLineError_ret (r : FaultReason) : (s.latchLineError p r).ret = s.ret := rfl
@[simp] theorem latchLineError_mlu (r : FaultReason) :
    (s.latchLineError p r).mlu q = s.mlu q := rfl

end

/-! ### Draws (R22 to R25) -/

section

variable (q : Port) (n : Nat)

@[simp] theorem draw_outside : (s.draw p n).outside = s.outside := rfl
@[simp] theorem draw_received : (s.draw p n).received q = s.received q := rfl
@[simp] theorem setShort_outside (b : Bool) : (s.setShort p b).outside = s.outside := rfl
@[simp] theorem setShort_received (b : Bool) : (s.setShort p b).received q = s.received q := rfl

@[simp] theorem markShort_outside (c : ShortCause) : (s.markShort p c n).outside = s.outside := by
  unfold markShort; split <;> simp
@[simp] theorem markShort_received (c : ShortCause) :
    (s.markShort p c n).received q = s.received q := by
  unfold markShort; split <;> simp

@[simp] theorem lowMarkCheck_outside : (s.lowMarkCheck p).outside = s.outside := by
  unfold lowMarkCheck; split_ifs <;> simp
@[simp] theorem lowMarkCheck_received : (s.lowMarkCheck p).received q = s.received q := by
  unfold lowMarkCheck; split_ifs <;> simp

@[simp] theorem reserve_outside : (s.reserve p n).outside = s.outside := rfl
@[simp] theorem reserve_received : (s.reserve p n).received q = s.received q := rfl

@[simp] theorem topUp_outside : (s.topUp p).outside = s.outside := by
  unfold topUp; split_ifs <;> simp
@[simp] theorem topUp_received : (s.topUp p).received q = s.received q := by
  unfold topUp; split_ifs <;> simp

end

/-! ### Composition and closure (R59, R67, R68, R141) -/

section

variable (q : Port) (f : MeterFrame) (r : Run) (reason : RunReason)

@[simp] theorem restartSilence_outside : (s.restartSilence p).outside = s.outside := by
  unfold restartSilence; split <;> simp
@[simp] theorem restartSilence_received : (s.restartSilence p).received q = s.received q := by
  unfold restartSilence; split <;> simp

@[simp] theorem debit_outside (b : Nat) : (s.debit p b).outside = s.outside := by
  unfold debit; split <;> simp
@[simp] theorem debit_received (b : Nat) : (s.debit p b).received q = s.received q := by
  unfold debit; split <;> simp

@[simp] theorem putFrame_outside : (s.putFrame p f).outside = s.outside := rfl
@[simp] theorem putFrame_received : (s.putFrame p f).received q = s.received q :=
  setMlu_received s p _ (by rfl) q

@[simp] theorem compose_outside : (s.compose p f).outside = s.outside := by
  unfold compose; split <;> simp
@[simp] theorem compose_received : (s.compose p f).received q = s.received q := by
  unfold compose; split <;> simp

@[simp] theorem sendUnasked_outside : (s.sendUnasked p f).outside = s.outside := by
  unfold sendUnasked; split <;> simp
@[simp] theorem sendUnasked_received : (s.sendUnasked p f).received q = s.received q := by
  unfold sendUnasked
  split
  · simp
  · exact setMlu_received s p _ (by rfl) q

@[simp] theorem returnReserved_outside : (s.returnReserved p).outside = s.outside := rfl
@[simp] theorem returnReserved_received : (s.returnReserved p).received q = s.received q := rfl
@[simp] theorem removeRun_outside : (s.removeRun p).outside = s.outside := rfl
@[simp] theorem removeRun_received : (s.removeRun p).received q = s.received q := rfl

@[simp] theorem closeSilently_outside : (s.closeSilently p r reason).outside = s.outside := by
  simp [closeSilently]
@[simp] theorem closeSilently_received :
    (s.closeSilently p r reason).received q = s.received q := by simp [closeSilently]
@[simp] theorem closeUnasked_outside : (s.closeUnasked p r reason).outside = s.outside := by
  simp [closeUnasked]
@[simp] theorem closeUnasked_received :
    (s.closeUnasked p r reason).received q = s.received q := by simp [closeUnasked]

end

/-! ### The pool-increase pass (R9 to R11) -/

section

variable (q : Port)

@[simp] theorem serveHead_outside (r : Run) : (s.serveHead p r).outside = s.outside := by
  simp [serveHead]
@[simp] theorem serveHead_received (r : Run) : (s.serveHead p r).received q = s.received q := by
  simp [serveHead]

/-- A property that every service of a head keeps holds after step 1 of the pass. -/
theorem passStep1_keeps {P : State → Prop}
    (h : ∀ t p r, P t → t.ret.queue.head? = some p → t.runOf p = some r →
      r.total ≤ (t.fundsOf p).available + t.ret.pool → P (t.serveHead p r)) :
    ∀ n t, P t → P (passStep1 n t) := by
  intro n
  induction n with
  | zero => intro t ht; exact ht
  | succ n ih =>
    intro t ht
    unfold passStep1
    split
    · exact ht
    · rename_i p rest hq
      split
      · exact ht
      · rename_i r hr
        split_ifs with hs
        · exact ih _ (h t p r ht (by simp [hq]) hr hs)
        · exact ht

/-- A property that every visit keeps holds after step 2 of the pass. -/
theorem passStep2_keeps {P : State → Prop} (h : ∀ t p, t.ret.queue = [] → P t → P (t.topUp p))
    (hq : ∀ t p, t.ret.queue = [] → (topUp p t).ret.queue = []) (t : State) (ht : P t) :
    P t.passStep2 := by
  unfold passStep2
  split_ifs with he
  · have key : ∀ (l : List Port) (u : State), u.ret.queue = [] → P u →
        P (l.foldl (fun t p => t.topUp p) u) := by
      intro l
      induction l with
      | nil => intro u _ hu; exact hu
      | cons a l ih => intro u hu0 hu; exact ih _ (hq u a hu0) (h u a hu0 hu)
    exact key _ t he ht
  · exact ht

theorem topUp_queue : (s.topUp p).ret.queue = s.ret.queue := by
  unfold topUp; split_ifs <;> simp [draw, setShort]

/-- A property that services and visits keep holds after the pass. -/
theorem pass_keeps {P : State → Prop}
    (h1 : ∀ t p r, P t → t.ret.queue.head? = some p → t.runOf p = some r →
      r.total ≤ (t.fundsOf p).available + t.ret.pool → P (t.serveHead p r))
    (h2 : ∀ t p, t.ret.queue = [] → P t → P (t.topUp p)) (ht : P s) : P s.pass :=
  passStep2_keeps h2 (fun t p h => by rw [topUp_queue, h]) _ (passStep1_keeps h1 _ _ ht)

@[simp] theorem pass_outside : s.pass.outside = s.outside :=
  pass_keeps s (P := fun t => t.outside = s.outside) (fun t p r h _ _ _ => by simpa using h)
    (fun t p _ h => by simpa using h) rfl

@[simp] theorem pass_received : s.pass.received q = s.received q :=
  pass_keeps s (P := fun t => t.received q = s.received q) (fun t p r h _ _ _ => by simpa using h)
    (fun t p _ h => by simpa using h) rfl

@[simp] theorem pass_host : s.pass.host = s.host := outside_host (pass_outside s)
@[simp] theorem pass_power : s.pass.power = s.power := outside_power (pass_outside s)
@[simp] theorem pass_lockMark : s.pass.lockMark = s.lockMark := outside_lockMark (pass_outside s)
@[simp] theorem pass_pending : s.pass.pending = s.pending := outside_pending (pass_outside s)

/-- A pass with no Run waiting and no Port short changes nothing (R9 to R11). -/
theorem pass_idle (hq : s.ret.queue = []) (hs : ∀ p, (s.fundsOf p).short = false) : s.pass = s := by
  have h1 : s.passStep1 s.ret.queue.length = s := by rw [hq]; rfl
  have h2 : ∀ p, s.topUp p = s := fun p => by simp [topUp, hs p]
  rw [pass, h1, passStep2, if_pos hq]
  simp [allPorts, h2]

end

end State

end Sys2Proof.Machine
end

