-- ==== Sys2Proof/Laws/Host.lean ====
section
/-! SUPPORT. What a host request can do: what the owning blocks leave alone, and the outcome of a request
that is taken as it arrives. -/

namespace Sys2Proof.Machine

/-- Each verb is read back from its spelling (R152). -/
@[simp] theorem verbOf_text (v : HostVerb) : verbOf v.text = some v := by cases v <;> decide

/-- A command that is a host request is that request reaching the Host Line Unit (R148). -/
theorem exec_of_hostRequest {i : Instr} {v : HostVerb} {fs : List Text}
    (h : hostRequest i = some (v, fs)) (s : State) : exec i s = s.request v fs := by
  cases i <;> first
    | (injection h with h; injection h with hv hf; subst hv hf; rfl)
    | (exact absurd h (by simp [hostRequest]))

/-! ### What the owning blocks leave alone -/

/-- An accepted request leaves the power state, the pins, Retained Memory's marks, the Host Line Unit and
the queue of commands as they were. -/
abbrev LeavesOutside (x : Answered) (s : State) : Prop := Leaves x fun t => t.outside = s.outside

namespace State

@[simp] theorem creditOrder_outside (s : State) (o a : Nat) :
    (s.creditOrder o a).outside = s.outside := rfl

@[simp] theorem takeMeterReset_outside (s : State) (p : Port) (c : ResetCause) :
    (s.takeMeterReset p c).outside = s.outside := by
  have h : ∀ t : State, (t.closeAtLine p .meterreset).outside = t.outside := by
    intro t
    unfold closeAtLine
    split
    · split_ifs <;> simp
    · rfl
  have hb : (s.detectBreak p).outside = s.outside := by
    unfold detectBreak
    simp only [setMlu_outside]
    split <;> simp
  simp [takeMeterReset, h, hb, leaveReady]

@[simp] theorem startTest_outside (s : State) (p : Port) (t : Text) :
    (s.startTest p t).outside = s.outside := rfl

end State

section

variable (fs : List Text) (s : State)

theorem refillRequest_outside : LeavesOutside (refillRequest fs s) s := by
  unfold refillRequest
  repeat' refine leaves_bind fun _ _ => ?_
  exact leaves_ok (by simp [State.refilled])

theorem withdrawRequest_outside : LeavesOutside (withdrawRequest fs s) s := by
  unfold withdrawRequest
  repeat' refine leaves_bind fun _ _ => ?_
  exact leaves_ok (by simp only [State.withdrawn, State.post_outside]; rfl)

theorem spoilrefRequest_outside : LeavesOutside (spoilrefRequest fs s) s := by
  unfold spoilrefRequest
  repeat' refine leaves_bind fun _ _ => ?_
  exact leaves_ok (by simp [State.spoilRefunded])

theorem recallRequest_outside : LeavesOutside (recallRequest fs s) s := by
  unfold recallRequest
  repeat' refine leaves_bind fun _ _ => ?_
  exact leaves_ok (by simp [State.recalled])

theorem levelsRequest_outside : LeavesOutside (levelsRequest fs s) s := by
  unfold levelsRequest
  repeat' refine leaves_bind fun _ _ => ?_
  exact leaves_ok (by simp)

theorem limitsRequest_outside : LeavesOutside (limitsRequest fs s) s := by
  unfold limitsRequest
  repeat' refine leaves_bind fun _ _ => ?_
  exact leaves_ok (by simp)

theorem fundsRequest_outside : LeavesOutside (fundsRequest s) s := leaves_ok rfl

theorem portfundsRequest_outside : LeavesOutside (portfundsRequest fs s) s := by
  unfold portfundsRequest
  repeat' refine leaves_bind fun _ _ => ?_
  exact leaves_ok rfl

theorem bandRequest_outside : LeavesOutside (bandRequest fs s) s := by
  unfold bandRequest
  repeat' refine leaves_bind fun _ _ => ?_
  split
  · exact leaves_ok rfl
  · repeat' refine leaves_bind fun _ _ => ?_
    exact leaves_ok rfl

theorem surchRequest_outside : LeavesOutside (surchRequest fs s) s := by
  unfold surchRequest
  repeat' refine leaves_bind fun _ _ => ?_
  exact leaves_ok rfl

theorem tierRequest_outside : LeavesOutside (tierRequest fs s) s := by
  unfold tierRequest
  repeat' refine leaves_bind fun _ _ => ?_
  split <;>
  · repeat' refine leaves_bind fun _ _ => ?_
    exact leaves_ok rfl

theorem editionRequest_outside : LeavesOutside (editionRequest fs s) s := by
  unfold editionRequest
  repeat' refine leaves_bind fun _ _ => ?_
  exact leaves_ok rfl

theorem clearnextRequest_outside : LeavesOutside (clearnextRequest s) s := leaves_ok rfl

theorem activateRequest_outside : LeavesOutside (activateRequest fs s) s := by
  unfold activateRequest
  repeat' refine leaves_bind fun _ _ => ?_
  split_ifs
  · exact leaves_error _ _
  · repeat' refine leaves_bind fun _ _ => ?_
    exact leaves_ok (by simp only [State.activated, State.post_outside]; rfl)

theorem quoteRequest_outside : LeavesOutside (quoteRequest fs s) s := by
  unfold quoteRequest
  repeat' refine leaves_bind fun _ _ => ?_
  split
  · exact leaves_bind fun _ _ => leaves_refuse _ _ _
  · repeat' refine leaves_bind fun _ _ => ?_
    split
    · exact leaves_refuse _ _ _
    · exact leaves_ok rfl

theorem raterepRequest_outside : LeavesOutside (raterepRequest fs s) s := by
  unfold raterepRequest
  repeat' refine leaves_bind fun _ _ => ?_
  exact leaves_ok rfl

theorem cancelRequest_outside : LeavesOutside (cancelRequest fs s) s := by
  unfold cancelRequest
  repeat' refine leaves_bind fun _ _ => ?_
  split_ifs <;> exact leaves_ok (by simp)

theorem lineRequest_outside : LeavesOutside (lineRequest fs s) s := by
  unfold lineRequest
  repeat' refine leaves_bind fun _ _ => ?_
  exact leaves_ok rfl

theorem receiveRequest_outside : LeavesOutside (receiveRequest fs s) s := by
  unfold receiveRequest
  repeat' refine leaves_bind fun _ _ => ?_
  exact leaves_ok rfl

theorem sellRequest_outside : LeavesOutside (sellRequest fs s) s := by
  unfold sellRequest
  repeat' refine leaves_bind fun _ _ => ?_
  exact leaves_ok rfl

theorem returnRequest_outside : LeavesOutside (returnRequest fs s) s := by
  unfold returnRequest
  repeat' refine leaves_bind fun _ _ => ?_
  exact leaves_ok (by simp [State.returned])

theorem countRequest_outside : LeavesOutside (countRequest fs s) s := by
  unfold countRequest
  repeat' refine leaves_bind fun _ _ => ?_
  refine leaves_ok ?_
  split_ifs
  · rfl
  · simp only [State.counted, State.post_outside]; rfl

theorem stockrepRequest_outside : LeavesOutside (stockrepRequest fs s) s := by
  unfold stockrepRequest
  repeat' refine leaves_bind fun _ _ => ?_
  exact leaves_ok rfl

theorem discrepRequest_outside : LeavesOutside (discrepRequest fs s) s := by
  unfold discrepRequest
  repeat' refine leaves_bind fun _ _ => ?_
  exact leaves_ok rfl

theorem offerRequest_outside : LeavesOutside (offerRequest fs s) s := by
  unfold offerRequest
  repeat' refine leaves_bind fun _ _ => ?_
  exact leaves_ok rfl

theorem suspendRequest_outside : LeavesOutside (suspendRequest fs s) s := by
  unfold suspendRequest
  repeat' refine leaves_bind fun _ _ => ?_
  split
  · exact leaves_ok (by simp)
  · exact leaves_ok rfl

theorem resumeRequest_outside : LeavesOutside (resumeRequest fs s) s := by
  unfold resumeRequest
  repeat' refine leaves_bind fun _ _ => ?_
  exact leaves_ok rfl

theorem portrepRequest_outside : LeavesOutside (portrepRequest fs s) s := by
  unfold portrepRequest
  repeat' refine leaves_bind fun _ _ => ?_
  exact leaves_ok rfl

theorem meterresetRequest_outside : LeavesOutside (meterresetRequest fs s) s := by
  unfold meterresetRequest
  repeat' refine leaves_bind fun _ _ => ?_
  split_ifs
  · exact leaves_ok (by simp)
  · exact leaves_ok rfl

theorem loopRequest_outside : LeavesOutside (loopRequest fs s) s := by
  unfold loopRequest
  repeat' refine leaves_bind fun _ _ => ?_
  split_ifs
  · repeat' refine leaves_bind fun _ _ => ?_
    exact leaves_ok rfl
  · repeat' refine leaves_bind fun _ _ => ?_
    exact leaves_ok rfl

theorem linetestRequest_outside : LeavesOutside (linetestRequest fs s) s := by
  unfold linetestRequest
  repeat' refine leaves_bind fun _ _ => ?_
  exact leaves_ok (by simp)

theorem noticesRequest_outside : LeavesOutside (noticesRequest s) s := leaves_ok rfl

end

/-- A request leaves the Host Input Hold and the transmit slots as they were (R149). -/
theorem perform_hold (v : HostVerb) (fs : List Text) (s : State) :
    Leaves (perform v fs s) fun t => t.host.hold = s.host.hold ∧ t.host.slots = s.host.slots := by
  have key : ∀ {x : Answered}, LeavesOutside x s →
      Leaves x fun t => t.host.hold = s.host.hold ∧ t.host.slots = s.host.slots := by
    intro x hx t r e
    rw [State.outside_host (hx t r e)]
    exact ⟨rfl, rfl⟩
  cases v
  · exact key (refillRequest_outside fs s)
  · exact key (withdrawRequest_outside fs s)
  · exact key (spoilrefRequest_outside fs s)
  · exact key (recallRequest_outside fs s)
  · exact key (levelsRequest_outside fs s)
  · exact key (limitsRequest_outside fs s)
  · exact key (fundsRequest_outside s)
  · exact key (portfundsRequest_outside fs s)
  · exact key (bandRequest_outside fs s)
  · exact key (quoteRequest_outside fs s)
  · exact key (surchRequest_outside fs s)
  · exact key (raterepRequest_outside fs s)
  · exact key (tierRequest_outside fs s)
  · exact key (editionRequest_outside fs s)
  · exact key (activateRequest_outside fs s)
  · exact key (clearnextRequest_outside s)
  · exact key (cancelRequest_outside fs s)
  · exact key (lineRequest_outside fs s)
  · exact key (receiveRequest_outside fs s)
  · exact key (sellRequest_outside fs s)
  · exact key (returnRequest_outside fs s)
  · exact key (countRequest_outside fs s)
  · exact key (stockrepRequest_outside fs s)
  · exact key (discrepRequest_outside fs s)
  · exact key (offerRequest_outside fs s)
  · exact key (suspendRequest_outside fs s)
  · exact key (resumeRequest_outside fs s)
  · exact key (portrepRequest_outside fs s)
  · exact key (meterresetRequest_outside fs s)
  · exact key (loopRequest_outside fs s)
  · exact key (linetestRequest_outside fs s)
  · exact key (noticesRequest_outside s)
  · exact leaves_ok ⟨rfl, rfl⟩
  · exact leaves_ok ⟨rfl, rfl⟩
  · unfold perform reinitRequest
    repeat' refine leaves_bind fun _ _ => ?_
    exact leaves_ok ⟨rfl, rfl⟩

/-- Answering a request leaves the Host Input Hold and the transmit slots as they were. -/
theorem answerRequest_hold (f : Frame) (s : State) :
    (answerRequest f s).1.host.hold = s.host.hold ∧
      (answerRequest f s).1.host.slots = s.host.slots := by
  unfold answerRequest
  split
  · exact ⟨rfl, rfl⟩
  · split_ifs
    · exact ⟨rfl, rfl⟩
    · exact ⟨rfl, rfl⟩
    · split
      · exact ⟨rfl, rfl⟩
      · rename_i v _ _ r hr
        exact perform_hold _ _ s r.1 r.2 hr

/-! ### A request taken as it arrives -/

/-- With the Host Line Unit free, a frame that arrives is taken at once, and its outcome and its reply
are all it leaves (R148, R149). -/
theorem requestArrives_free {s : State} (h : s.HostFree) (f : Frame) :
    s.requestArrives f = (answerRequest f s).1.reply (answerRequest f s).2 := by
  have hs : (s.setHost { s.host with hold := s.host.hold ++ [f] }).setHost
      { (s.setHost { s.host with hold := s.host.hold ++ [f] }).host with hold := [] } = s := by
    have hh := h.hold
    cases s with
    | mk power pfail resetIn pins ret shelved checkWord lockMark host records mlus notices lost pending =>
      cases host
      simp only [State.setHost] at hh ⊢
      rw [hh]
  have ht : (s.setHost { s.host with hold := s.host.hold ++ [f] }).mayTake = true := by
    simp [State.mayTake, State.setHost, h.slot, h.pending]
  have hl : (s.setHost { s.host with hold := s.host.hold ++ [f] }).host.hold = [f] := by
    simp [State.setHost, h.hold]
  have hlt : s.host.hold.length < Config.holdMax := by simp [h.hold, Config.holdMax]
  rw [State.requestArrives, if_pos hlt, Config.holdMax, State.takeHeld, hl]
  simp only [ht, if_true, hs]
  have hh : (s.takeRequest f).host.hold = [] := by
    simp [State.takeRequest, State.reply, (answerRequest_hold f s).1, h.hold]
  rw [State.takeHeld, hh]
  rfl

/-- A host request on a part that serves every verb: with the number of fields its verb has, its owning
block's answer is all it leaves (R149, R152, R154). -/
theorem exec_request_ready {i : Instr} {v : HostVerb} {fs : List Text}
    (hi : hostRequest i = some (v, fs)) {s : State} (h : s.HostReady) (hn : fs.length = v.fieldCount) :
    exec i s = .next (match perform v fs s with
      | .error e => s.reply (.no v e.word e.pos e.extra)
      | .ok (t, r) => t.reply r) := by
  rw [exec_of_hostRequest hi, State.request, State.during, if_pos h.running,
    requestArrives_free h.toHostFree]
  simp only [answerRequest, verbOf_text, h.normal, Bool.false_and, hn, ne_eq, not_true,
    if_false, Bool.false_eq_true]
  cases perform v fs s <;> rfl

end Sys2Proof.Machine
end

