-- ==== Sys2Proof/Laws/Meter.lean ====
section
/-! SUPPORT. What a record of a meter can do: its block leaves what the line has received alone, and the
outcome of a record that is taken as it arrives. -/

namespace Sys2Proof.Machine

namespace State

variable (s : State) (p q : Port)

@[simp] theorem giveBasic_received : (s.giveBasic p).received q = s.received q := by
  unfold giveBasic
  split_ifs <;> simp

@[simp] theorem admitActive_received (r : Run) : (s.admitActive p r).1.received q = s.received q := by
  simp [admitActive]

@[simp] theorem admitWaiting_received (r : Run) :
    (s.admitWaiting p r).1.received q = s.received q := by
  simp [admitWaiting]

@[simp] theorem admit_received (profile : Profile) (c w : Nat) (letters : Text) (n : Nat) :
    (s.admitRun p profile c w letters n).1.received q = s.received q := by
  unfold admitRun
  split_ifs
  · rfl
  · split
    · rfl
    · split_ifs <;> simp

@[simp] theorem countReport_received (r : Run) (a b : Nat) :
    (s.countReport p r a b).received q = s.received q := by
  simp [countReport]

@[simp] theorem answerDone_received (r : Run) : (s.answerDone p r).1.received q = s.received q := by
  unfold answerDone
  split_ifs <;> simp

@[simp] theorem returnUnprinted_received (r : Run) :
    (s.returnUnprinted p r).received q = s.received q := rfl

@[simp] theorem recordSerial_received (t : Text) :
    (s.recordSerial p t).received q = s.received q := by
  have h : ∀ u : State,
      ({ u with ret := { u.ret with serials := u.ret.serials.set p (some t) } } : State).received q =
        u.received q := fun _ => rfl
  unfold recordSerial
  rw [h]
  split_ifs <;> simp

@[simp] theorem attach_received (a : Announcement) : (s.attach p a).1.received q = s.received q := by
  unfold attach
  dsimp only
  split_ifs <;> simp

end State

/-- The block that a record goes to leaves what every line has received as it was (R105). -/
theorem route_received (p q : Port) (f : Frame) (s : State) :
    (route p f s).1.received q = s.received q := by
  unfold route
  split_ifs
  · unfold takeAnnounce; split
    · rfl
    · split_ifs <;> simp
  · rfl
  · unfold takeRun; split
    · rfl
    · split_ifs
      · rfl
      · rfl
      · dsimp only
        split <;> simp
  · rfl
  · unfold takeDone; split
    · rfl
    · split
      · rfl
      · split_ifs <;> simp
  · rfl
  · unfold takeStop; split
    · rfl
    · split
      · rfl
      · split_ifs <;> simp
  · rfl

/-- With the Meter Line Unit free, a record that arrives is taken at once, and its block's outcome and
the answer composed are all it leaves (R137, R141). -/
theorem frameArrives_free {s : State} {p : Port} (h : s.MeterFree p) (f : Frame) :
    s.frameArrives p f = (route p f s).1.compose p (route p f s).2 := by
  have hj : (s.mlu p).join f = { s.mlu p with inputs := [f] } := by
    simp [Mlu.join, h.inputs]
  have hm : (s.setMlu p ((s.mlu p).join f)).mlu p = { s.mlu p with inputs := [f] } := by
    rw [hj]; simp
  have hback : (s.setMlu p ((s.mlu p).join f)).setMlu p
      ((s.setMlu p ((s.mlu p).join f)).mlu p).takeOff = s := by
    rw [hm]
    have : ({ s.mlu p with inputs := [f] } : Mlu).takeOff = s.mlu p := by
      have hi := h.inputs
      cases hmm : s.mlu p
      rw [hmm] at hi
      simp_all [Mlu.takeOff]
    rw [this]
    simp [State.setMlu, State.mlu]
  have hrec : ((s.setMlu p ((s.mlu p).join f)).record p).state.attached = true := h.attached
  have hin : (s.mlu p).inputs.length < Config.inputMax := by simp [h.inputs, Config.inputMax]
  have hrest : ((route p f s).1.compose p (route p f s).2).takeHead p =
      (route p f s).1.compose p (route p f s).2 := by
    have e : (((route p f s).1.compose p (route p f s).2).mlu p).inputs = [] := by
      have := congrArg (fun x => x.2.1)
        ((State.compose_received (route p f s).1 p p (route p f s).2).trans (route_received p p f s))
      simpa [State.received, h.inputs] using this
    rw [State.takeHead, e]
  have hslot : ((s.setMlu p ((s.mlu p).join f)).mlu p).slots.hasFree = true := by
    rw [hm]; exact h.slot
  have howed : ((s.setMlu p ((s.mlu p).join f)).mlu p).owed = none := by rw [hm]; exact h.owed
  have h1 : (s.setMlu p ((s.mlu p).join f)).composeOwed p = s.setMlu p ((s.mlu p).join f) := by
    rw [State.composeOwed, howed]
  have h2 : (s.setMlu p ((s.mlu p).join f)).takeHead p =
      (route p f s).1.compose p (route p f s).2 := by
    rw [State.takeHead]
    have : ((s.setMlu p ((s.mlu p).join f)).mlu p).inputs = [f] := by rw [hm]
    rw [this]
    simp only [howed, hslot, hrec, hback, Option.isNone_none, Bool.and_true, if_true]
  rw [State.frameArrives, if_pos h.attached, if_pos hin]
  simp only [hslot, if_true, State.useSlot, h1, h2, hrest]

/-- A record of a meter on a Port that takes it at once (R105, R141). -/
theorem during_frameArrives_free {s : State} {p : Port} (h : s.MeterFree p) (f : Frame) :
    s.during (State.frameArrives p f) = .next ((route p f s).1.compose p (route p f s).2) := by
  rw [State.during, if_pos h.running, frameArrives_free h]

/-! ### Flow characters and the loop -/

@[simp] theorem Mlu.charPassed_rx (m : Mlu) : m.charPassed.rx = m.rx := rfl
@[simp] theorem Mlu.charPassed_inputs (m : Mlu) : m.charPassed.inputs = m.inputs := rfl
@[simp] theorem Mlu.charPassed_slots (m : Mlu) : m.charPassed.slots = m.slots := rfl
@[simp] theorem Mlu.charPassed_sending (m : Mlu) : m.charPassed.sending = m.sending := rfl
@[simp] theorem Mlu.charPassed_owed (m : Mlu) : m.charPassed.owed = m.owed := rfl
@[simp] theorem Mlu.charPassed_heldByUs (m : Mlu) : m.charPassed.heldByUs = m.heldByUs := rfl
@[simp] theorem Mlu.charPassed_heldByMeter (m : Mlu) : m.charPassed.heldByMeter = m.heldByMeter := rfl
@[simp] theorem Mlu.charPassed_flowOut (m : Mlu) : m.charPassed.flowOut = m.flowOut := rfl
@[simp] theorem Mlu.charPassed_drivingBreak (m : Mlu) : m.charPassed.drivingBreak = m.drivingBreak := rfl

/-- HOLD goes out with its parity bit at one (R175). -/
@[simp] theorem parityBit_hold : parityBit (Flow.char .hold) = true := by decide

/-- GO goes out with its parity bit at zero (R175). -/
@[simp] theorem parityBit_go : parityBit (Flow.char .go) = false := by decide

/-- A flow character leaves a receiver as it is, but for a frame held open at space (R131). -/
theorem meterReceives_flow {s : State} {p : Port} (h : ∀ body, (s.mlu p).rx ≠ .collect body true) :
    s.meterReceives p Receiver.flow = s := by
  have hf : Receiver.flow (s.mlu p).rx = ((s.mlu p).rx, none) := by
    cases hr : (s.mlu p).rx with
    | idleWait => rfl
    | ready => rfl
    | collect body atSpace =>
      cases atSpace with
      | false => rfl
      | true => exact absurd hr (h body)
  have hs : s.setMlu p { s.mlu p with rx := (s.mlu p).rx } = s := State.setMlu_mlu_self s p
  unfold State.meterReceives
  rw [hf]
  split
  · exact hs
  · rfl

/-- No flow character comes round the loop (R144). -/
theorem meterFlow_looped {s : State} {p : Port} (h : (s.record p).state = .loopback) (f : Flow) :
    s.meterFlow p f = s := by
  rw [State.meterFlow, if_pos h]

/-- All that a HOLD or GO of a meter does, where no frame is held open at space (R139). -/
theorem meterFlow_eq {s : State} {p : Port} (h : (s.record p).state ≠ .loopback)
    (hr : ∀ body, (s.mlu p).rx ≠ .collect body true) (f : Flow) :
    s.meterFlow p f = s.setMlu p ((s.mlu p).charPassed.obeys f) := by
  rw [State.meterFlow, if_neg h, meterReceives_flow hr]

/-- What a character that is no clean flow character does on an attached Port's line: the receiver takes
it (R126). -/
theorem meterHears_attached {s : State} {p : Port} (h : (s.record p).state.attached = true) (c : Chr)
    (e : CharError) :
    s.meterHears p c e = (s.setMlu p (s.mlu p).charPassed).meterReceives p
      (Receiver.receive Config.meterLine.maxFrame c e) := by
  rw [State.meterHears, if_pos h]

/-- A looped receiver hears nothing but what comes round the loop (R144). -/
theorem meterHears_deaf {s : State} {p : Port} {c : Chr} {e : CharError}
    (h : (s.record p).state.attached = false) (hc : (s.mlu p).comesRound c e = false) :
    s.meterHears p c e = s := by
  rw [State.meterHears, h, hc]
  simp

/-- A looped receiver takes what comes round the loop, whether or not the frame has left its slot (R142,
R144). -/
theorem meterHears_looped {s : State} {p : Port} {c : Chr} {e : CharError}
    (h : (s.record p).state = .loopback) (hc : (s.mlu p).comesRound c e = true) :
    s.meterHears p c e = s.meterReceives p (Receiver.receive Config.meterLine.maxFrame c e) := by
  rw [State.meterHears, h, hc]
  rfl

/-- Nothing comes round a loop with no frame on it (R144). -/
theorem comesRound_none {m : Mlu} (h : m.onLoop = none) (c : Chr) (e : CharError) :
    m.comesRound c e = false := by
  rw [Mlu.comesRound, h]

/-- Nothing begins at a READY receiver with no test in flight (R146). -/
theorem comesRound_ready {m : Mlu} (hr : m.rx = .ready) (ht : m.testInFlight = false) (c : Chr)
    (e : CharError) : m.comesRound c e = false := by
  unfold Mlu.comesRound
  split
  · rfl
  · rw [hr, ht]
    rfl

/-- The next character of the frame on the loop comes round (R144). -/
theorem comesRound_next {m : Mlu} {f : MeterFrame} {body : Text} {c : Chr} (hf : m.onLoop = some f)
    (hr : m.rx = .collect body false) (hc : f.onLine[body.length + 1]? = some c) (e : CharError) :
    m.comesRound c e = true := by
  simp [Mlu.comesRound, hf, hr, hc]

/-- Every transmit pin marks while the part is stopped (R168, R176). -/
theorem transmitPin_stopped {s : State} (h : s.power = .stopped) (l : Line) :
    s.transmitPin l = .marking := by
  cases l <;> simp [State.transmitPin, h]

end Sys2Proof.Machine
end

