-- ==== Sys2Proof/Tests/Slice0.lean ====
section
/-! SUPPORT. Tests of one step each, with their expected figures from the manual's worked examples and
tables, the smoke test of WellFormed, and for every statement with hypotheses a witness of each of its
clauses. -/

namespace Sys2Proof.Tests

open Sys2Proof.Machine

/-! ### Helpers -/

/-- The fields of a request or a record, as the manual writes them. -/
def fields (fs : List String) : List Text := fs.map word

/-- The state a command leaves. -/
def after (c : Instr) (s : State) : State :=
  match exec c s with
  | .next t => t
  | _ => s

/-- The reply a request composes into an empty pair of host slots. -/
def reply (c : Instr) (s : State) : Option HostReply := (after c s).host.slots.first

/-- The frame a command composes into the empty slots of a Port. -/
def frame (p : Port) (c : Instr) (s : State) : Option MeterFrame := ((after c s).mlu p).slots.first

/-- The part after a REINIT, with the meter lines of all Ports up and their receivers in READY. -/
def attachedAs (st : PortState) (profile : Option Profile) : State :=
  { State.reset with
    records := Vector.replicate 6 { PortRecord.atStart true with state := st, profile := profile }
    mlus := Vector.replicate 6 { Mlu.atStart true with rx := .ready }
    notices := [] }

/-- All Ports UNANNOUNCED. -/
def unannounced : State := attachedAs .unannounced none

/-- The Profile of Port 1 in section 4.8. -/
def profile : Profile := ⟨2, [1, 2, 3, 5], [.A, .B], 9999, 25, false⟩

/-- Edition 412 of section 3.5: its classes 2, 3, 5 and 8, its surcharges and its tiers. -/
def edition412 : RateTable :=
  { RateTable.empty with
    edition := 412
    bands := #v[
      Vector.replicate 10 none,
      (((Vector.replicate 10 none).set 0 (some ⟨1, 100, 860⟩)).set 1 (some ⟨101, 250, 1240⟩)).set 2
        (some ⟨251, 500, 1980⟩),
      ((Vector.replicate 10 none).set 0 (some ⟨1, 20, 540⟩)).set 1 (some ⟨51, 100, 910⟩),
      Vector.replicate 10 none,
      (((Vector.replicate 10 none).set 0 (some ⟨1, 500, 2100⟩)).set 3 (some ⟨100, 250, 1700⟩)).set 5
        (some ⟨100, 250, 1650⟩),
      Vector.replicate 10 none,
      (Vector.replicate 10 none).set 0 (some ⟨1, 2000, 25000⟩),
      (Vector.replicate 10 none).set 0 (some ⟨1, 50, 0⟩)]
    surcharges := #v[some 120, some 350, none, some 0, none, none]
    tiers := #v[some ⟨100, 20⟩, some ⟨250, 45⟩, some ⟨1000, 70⟩, none] }

/-- All Ports READY, with Edition 412 activated, the pool at 1,000,000 and Port 1's figures as section
4.8 gives them. -/
def branch : State :=
  let s := attachedAs .ready (some profile)
  { s with ret := { s.ret with
      pool := 1000000
      credited := 1080000
      lastOrder := 310
      current := edition412
      runIds := s.ret.runIds.set 0 36
      funds := s.ret.funds.set 0 { PortFunds.initial with available := 80000 } } }

/-- A Run of section 4.8: class 2, 118 grams, surcharge B, 500 pieces. -/
def run37 (state : RunState) (granted printed : Nat) : Run :=
  { id := 37, state := state, pieces := 500, level := 2, block := 25, edition := 412, charge := 1534
    total := 767000, granted := granted, printed := printed, spoiled := 0, waitDeadline := none
    silenceDeadline := some 60, cancelRequested := false }

/-- The branch while Run 37 prints. -/
def printing (state : RunState) (granted printed : Nat) : State :=
  { branch with ret := { branch.ret with
      pool := 213000
      runs := branch.ret.runs.set 0 (some (run37 state granted printed))
      funds := branch.ret.funds.set 0 { PortFunds.initial with
        available := 100000
        reserved := (500 - granted) * 1534
        usedValue := granted * 1534
        usedPieces := granted } } }

/-- The branch of section 12.3 before its step 5: Run 9 of Port 2 waits alone. -/
def waiting : State :=
  { branch with ret := { branch.ret with
      pool := 213000
      queue := [1]
      runs := branch.ret.runs.set 1 (some
        { id := 9, state := .waiting, pieces := 300, level := 2, block := 20, edition := 412
          charge := 821, total := 246300, granted := 0, printed := 0, spoiled := 0
          waitDeadline := some 120, silenceDeadline := none, cancelRequested := false })
      funds := branch.ret.funds.set 1 { PortFunds.initial with available := 5000 } } }

/-- The branch of section 5.10 with line 3 as given. -/
def stocked (state : StockState) (onHand : Nat) (pool : Nat) : State :=
  { branch with ret := { branch.ret with
      pool := pool
      stock := branch.ret.stock.set 2 { StockLine.initial with
        state := state, denomination := some 85, form := some .sheet, onHand := onHand } } }

/-- The part in LOCKED, its stored contents those after a REINIT. -/
def locked : State :=
  { State.reset with ret := Retained.locked, shelved := some Retained.initial, lockMark := true }

/-- Port 1 in LOOPBACK, suspended, with its receiver in READY. -/
def looped : State :=
  (((unannounced.setSuspended 0 true)).setRecord 0
    { PortRecord.atStart true with state := .loopback }).setMlu 0 { Mlu.atStart true with rx := .ready }

/-- Port 1 takes the fields of a Meter Line Unit, the others of the state staying. -/
def withMlu (s : State) (m : Mlu) : State := s.setMlu 0 m

/-- Both slots of Port 1 full, as in section 7.7 from its step 3 on. -/
def full (m : Mlu) : Mlu := { m with slots := .two .A (.ack 14 3) (.grant 14 5) }

/-- The levels a start-up samples, with both straps high and every line marking. -/
def pins : Pins := ⟨true, true, Vector.replicate 6 true⟩

/-! ### Orders and Allotments -/

/-- Section 12.3, step 5. -/
theorem test_refill_serves_waiting :
    (after (.refill (fields ["311", "500000"])) waiting).ret.pool = 371700 ∧
      ((after (.refill (fields ["311", "500000"])) waiting).fundsOf 1).reserved = 229880 := by decide

/-- R5: an 8-digit amount reaches the RANGE check. -/
theorem test_refill_range : reply (.refill (fields ["311", "10000000"])) branch =
    some (.no .refill .range 2 none) := by decide

/-- Section 12.3, step 4. -/
theorem test_withdraw_queued : reply (.withdraw (fields ["311", "100000"])) waiting =
    some (.no .withdraw .queued 0 none) := by decide

theorem test_withdraw : (after (.withdraw (fields ["311", "100000"])) branch).ret.pool = 900000 ∧
    (after (.withdraw (fields ["311", "100000"])) branch).ret.withdrawn = 100000 := by decide

/-- The branch with one spoiled piece of Run 37 on Port 1 (section 4.8). -/
def spoiled : State :=
  branch.setFunds 0 { branch.fundsOf 0 with
    usedValue := 81302, usedPieces := 53, spoilPieces := 1, spoilValue := 1534 }

theorem test_spoilref : reply (.spoilref (fields ["311", "1", "1", "1534"])) spoiled =
      some (.ok .spoilref [.num 311, .num 1001534]) ∧
    ((after (.spoilref (fields ["311", "1", "1", "1534"])) spoiled).fundsOf 0).spoilValue = 0 := by
  decide

theorem test_spoilref_excess : reply (.spoilref (fields ["311", "1", "2", "1534"])) spoiled =
    some (.no .spoilref .excess 3 none) := by decide

/-- R26: an empty amount is the whole of Available. -/
theorem test_recall : reply (.recall (fields ["1", ""])) branch =
    some (.ok .recall [.num 80000, .num 0, .num 1080000]) := by decide

theorem test_recall_zero : reply (.recall (fields ["1", "0"])) branch =
    some (.no .recall .range 2 none) := by decide

/-- R28: a Target raised to the Low Mark gives position 3. -/
theorem test_levels_raised : reply (.levels (fields ["1", "50000", "40000"])) branch =
    some (.adj .levels 3 [.num 50000, .num 50000, .num 80000, .num 0]) := by decide

/-- R24, fourth line: the Want is drawn. -/
theorem test_levels_draws : (after (.levels (fields ["2", "", ""])) branch).ret.pool = 900000 := by
  decide

theorem test_limits_adjusted : reply (.limits (fields ["1", "", "4", "601"])) branch =
    some (.adj .limits 3 [.num 5000000, .num 5, .num 600]) := by decide

/-- The reply of section 8.5, 43 characters long. -/
theorem test_funds :
    let s : State := { branch with ret := { branch.ret with
      pool := 40000, credited := 1000000, lastOrder := 119, queue := [0] } }
    (reply (.funds []) s).map HostReply.body = some (word "FUNDS;OK;40000;1000000;0;0;0;119;0;0;1") ∧
      (reply (.funds []) s).map (fun r => r.onLine.length) = some 43 := by decide

theorem test_portfunds : (reply (.portfunds (fields ["1"])) branch).map HostReply.body =
    some (word "PORTFUNDS;OK;1;80000;0;0;0;0;0;20000;100000;0;5000000;60;120") := by decide

/-! ### Rates -/

/-- Section 3.5.4. -/
theorem test_band_adjusted : (reply (.band (fields ["3", "2", "51", "40", "910"])) branch).map
    HostReply.body = some (word "BAND;ADJ;4;3;2;51;51;910") := by decide

/-- Section 3.5.4: a rate is money and is not clamped. -/
theorem test_band_rate : reply (.band (fields ["3", "2", "51", "100", "1000000"])) branch =
    some (.no .band .range 5 none) := by decide

/-- R36. -/
theorem test_bandRemove :
    let s : State := { branch with ret := { branch.ret with next := edition412 } }
    (((after (.bandRemove (fields ["3", "1", "", "", ""])) s).ret.next.bands.get 2).get 0 = none) ∧
      (reply (.bandRemove (fields ["3", "1", "", "", ""])) s).map HostReply.body =
        some (word "BAND;OK;3;1;;;") := by decide

theorem test_surch : (after (.surch (fields ["C", "250"])) branch).ret.next.surcharges.get 2 = some 250 := by
  decide

/-- R37: a small letter is no letter A to F. -/
theorem test_surch_range : reply (.surch (fields ["c", "250"])) branch =
    some (.no .surch .range 1 none) := by decide

/-- Section 3.5.4. -/
theorem test_tier_adjusted : (reply (.tier (fields ["4", "1", "600"])) branch).map HostReply.body =
    some (word "TIER;ADJ;2;4;2;500") := by decide

/-- R153: the missing per mille fails its field check before the slot its range. -/
theorem test_tier_format : reply (.tier (fields ["5", "10", ""])) branch =
    some (.no .tier .format 3 none) := by decide

theorem test_edition_same : reply (.edition (fields ["412"])) branch =
    some (.no .edition .same 1 none) := by decide

theorem test_edition : (after (.edition (fields ["413"])) branch).ret.next.edition = 413 := by decide

/-- The branch with NEXT loaded as Edition 413. -/
def loaded : State :=
  { branch with ret := { branch.ret with next := { edition412 with edition := 413 } } }

theorem test_clearnext : (after (.clearnext []) loaded).ret.next = RateTable.empty := by decide

/-- The example of R42. -/
theorem test_activate_mismatch : (reply (.activate (fields ["412"])) loaded).map HostReply.body =
    some (word "ACTIVATE;NO;MISMATCH;1;413") := by decide

theorem test_activate : (after (.activate (fields ["413"])) loaded).notices = [.rateswitch 413 412 0] ∧
    (after (.activate (fields ["413"])) loaded).ret.current.edition = 413 := by decide

/-- Section 3.5.1. -/
theorem test_quote : reply (.quote (fields ["CURRENT", "2", "118", "B", "500"])) branch =
    some (.ok .quote [.num 2, .num 2, .num 1184, .num 1534, .num 767000]) := by decide

/-- Section 3.5.2: slots 4 and 6 share the smallest upper weight. And R153: the letters are judged before the
form of the pieces. -/
theorem test_quote_overlap :
    reply (.quote (fields ["CURRENT", "5", "180", "", "1"])) branch =
        some (.ok .quote [.num 4, .num 0, .num 1700, .num 1700, .num 1700]) ∧
      reply (.quote (fields ["CURRENT", "2", "118", "Z", ""])) branch =
        some (.no .quote .range 4 none) := by decide

theorem test_raterep : (reply (.raterep (fields ["CURRENT", "T"])) branch).map HostReply.body =
    some (word "RATEREP;OK;412;T;100;20;250;45;1000;70;;") := by decide

/-! ### Runs -/

/-- Section 4.8, the first line of its table. -/
theorem test_run_admitted :
    frame 0 (.run 0 (fields ["2", "118", "B", "500"])) branch = some (.runok 37 412 1534 25) ∧
      (after (.run 0 (fields ["2", "118", "B", "500"])) branch).ret.pool = 213000 ∧
      ((after (.run 0 (fields ["2", "118", "B", "500"])) branch).fundsOf 0).reserved = 728650 := by decide

/-- Section 6.9.2: the Basic Profile, and then no band for class 1. -/
theorem test_run_unannounced :
    let s : State := { unannounced with ret := { unannounced.ret with current := edition412 } }
    frame 4 (.run 4 (fields ["1", "20", "", "1"])) s = some (.badreq (word "RUN") .noclass 1) ∧
      ((after (.run 4 (fields ["1", "20", "", "1"])) s).record 4).latched.unannouncedUse = true := by
  decide

/-- Section 4.8, DONE;37;25;0. -/
theorem test_done_grants :
    frame 0 (.done 0 (fields ["37", "25", "0"])) (printing .active 25 0) = some (.grant 37 25) ∧
      ((after (.done 0 (fields ["37", "25", "0"])) (printing .active 25 0)).fundsOf 0).reserved = 690300 := by
  decide

/-- Section 4.8, DONE;37;9;0: a clamp latches COUNT-MISMATCH. -/
theorem test_done_clamped :
    frame 0 (.done 0 (fields ["37", "9", "0"])) (printing .active 50 45) = some (.grant 37 25) ∧
      ((after (.done 0 (fields ["37", "9", "0"])) (printing .active 50 45)).record 0).latched.countMismatch =
        true := by decide

/-- Section 4.8, STOP;37;3;0. -/
theorem test_stop :
    frame 0 (.stop 0 (fields ["37", "3", "0"])) (printing .active 75 50) =
        some (.runend 37 .stopped 53 0) ∧
      ((after (.stop 0 (fields ["37", "3", "0"])) (printing .active 75 50)).fundsOf 0).available = 785698 ∧
      ((after (.stop 0 (fields ["37", "3", "0"])) (printing .active 75 50)).fundsOf 0).usedValue = 81302 := by
  decide

theorem test_stop_norun : frame 0 (.stop 0 (fields ["36", "3"])) (printing .active 75 50) =
    some (.norun 36) := by decide

/-- Section 12.4, case A: a HALT to a level-2 meter. -/
theorem test_cancel_halts : frame 0 (.cancel (fields ["1"])) (printing .active 40 35) = some (.halt 37) := by
  decide

/-- Section 4.8.1: a RUNOK still owed. -/
theorem test_cancel_owed :
    let s := withMlu (printing .active 0 0)
      { full ((printing .active 0 0).mlu 0) with owed := some (.runok 37 412 1534 25) }
    ((after (.cancel (fields ["1"])) s).mlu 0).owed = some (.runend 37 .cancelled 0 0) ∧
      ((after (.cancel (fields ["1"])) s).fundsOf 0).available = 867000 := by decide

/-- Section 12.4, case B: the Outstanding is counted as printed. -/
theorem test_silence : frame 0 (.silenceTimerExpiry 0) (printing .active 40 35) =
    some (.runend 37 .silent 40 0) := by decide

/-- Section 12.3, the last paragraph. -/
theorem test_wait_expiry : frame 1 (.waitTimerExpiry 1) waiting = some (.runend 9 .nofunds 0 0) ∧
    (after (.waitTimerExpiry 1) waiting).notices =
      [.nofunds 1 9 246300 241300 213000, .runend 1 9 .nofunds 300 0 0 821 0] := by decide

/-! ### Stock -/

/-- Section 5.10. -/
theorem test_line : (reply (.line (fields ["3", "85", "SHEET", "OPEN"])) branch).map HostReply.body =
    some (word "LINE;OK;3;85;SHEET;OPEN") := by decide

/-- Section 5.10, the last paragraph. -/
theorem test_line_notempty : reply (.line (fields ["3", "90", "SHEET", "OPEN"])) (stocked .onSale 1003 0) =
    some (.no .line .notempty 2 none) := by decide

theorem test_receive : (reply (.receive (fields ["3", "2000"])) (stocked .onSale 0 500000)).map
    HostReply.body = some (word "RECEIVE;OK;3;2000;170000;330000") := by decide

theorem test_sell : (reply (.sell (fields ["3", "340"])) (stocked .onSale 2000 330000)).map
    HostReply.body = some (word "SELL;OK;3;1660;28900") := by decide

theorem test_count_short : (reply (.count (fields ["3", "1652"])) (stocked .onSale 1660 330000)).map
    HostReply.body = some (word "COUNT;OK;3;SHORT;1660;1652;-8;-680") := by decide

theorem test_count_over : (reply (.count (fields ["3", "1003"])) (stocked .onSale 1000 330000)).map
    HostReply.body = some (word "COUNT;OK;3;OVER;1000;1003;3;255") := by decide

theorem test_return : (reply (.returnStock (fields ["3", "652"])) (stocked .onSale 1652 330000)).map
    HostReply.body = some (word "RETURN;OK;3;1000;55420;385420") := by decide

theorem test_stockrep : (reply (.stockrep (fields ["3"])) (stocked .onSale 1652 330000)).map
    HostReply.body = some (word "STOCKREP;OK;3;OPEN;85;SHEET;1652;140420;0;0") := by decide

theorem test_discrep_empty : (reply (.discrep (fields ["1"])) branch).map HostReply.body =
    some (word "DISCREP;OK;0;0;0") := by decide

/-! ### Ports -/

theorem test_offer : (after (.offer (fields ["1235", "AB", "9999", "26"])) branch).ret.offer =
    ⟨[1, 2, 3, 5], [.A, .B], 9999, 25⟩ := by decide

/-- R114: a WAITING Run of the Port closes SUSPENDED. -/
theorem test_suspend : reply (.suspend (fields ["2"])) waiting =
      some (.ok .suspend [.num 2, .num 9]) ∧
    frame 1 (.suspend (fields ["2"])) waiting = some (.runend 9 .suspended 0 0) := by decide

theorem test_resume : (after (.resume (fields ["1"])) (branch.setSuspended 0 true)).suspendedOf 0 = false := by
  decide

/-- Port 3 of section 6.9.1 before its announcement. -/
def replaced : State :=
  { unannounced with ret := { unannounced.ret with
      offer := ⟨[1, 2, 3, 5], [.A, .B], 9999, 25⟩
      serials := unannounced.ret.serials.set 2 (some (word "40112233"))
      funds := unannounced.ret.funds.set 2 { PortFunds.initial with available := 60000 } } }

/-- Section 6.9.1. -/
theorem test_announce :
    (frame 2 (.announce 2 (fields ["1", "40119876", "1234", "ABC", "2000", "10"])) replaced).map
        MeterFrame.body = some (word "ACCEPT;1;123;AB;2000;10") ∧
      (after (.announce 2 (fields ["1", "40119876", "1234", "ABC", "2000", "10"])) replaced).notices =
        [.meterchanged 2 (some (word "40112233")) (word "40119876") 60000 0,
          .attach 2 .unannounced (word "40119876") (some ⟨1, [1, 2, 3], [.A, .B], 2000, 10, false⟩)] := by
  decide

/-- Section 6.9.1: an Offer with no common class. -/
theorem test_announce_refused :
    let s := replaced.setOffer ⟨[5, 6, 7, 8], [], 9999, 25⟩
    frame 2 (.announce 2 (fields ["1", "40119876", "1234", "ABC", "2000", "10"])) s = some .refuse ∧
      ((after (.announce 2 (fields ["1", "40119876", "1234", "ABC", "2000", "10"])) s).record 2).state =
        .refused := by decide

/-- R124: the latched set is emptied by the read. -/
theorem test_portrep :
    let s := branch.latch 0 .meterChanged
    (reply (.portrep (fields ["1"])) s).map HostReply.body =
        some (word "PORTREP;OK;1;READY;0;1;1;2;1235;AB;9999;25;0;;M;NONE;NONE;;;;;;") ∧
      ((after (.portrep (fields ["1"])) s).record 0).latched = Latches.none := by decide

theorem test_meterUnknownVerb :
    frame 0 (.meterUnknownVerb 0 (word "ABCDEFGHIJKLMNOP") []) branch =
      some (.badreq (word "ABCDEFGHIJKL") .unknown 0) := by decide

/-! ### The meter lines -/

/-- R143, R118. -/
theorem test_meterreset : ((after (.meterreset (fields ["1"])) branch).record 0).state = .unannounced ∧
    (after (.meterreset (fields ["1"])) branch).notices = [.meterreset 0 .command .ready 0 80000] := by decide

/-- R143, R176. -/
theorem test_meterreset_pin : branch.transmitPin (.meter 0) = .marking ∧
    (after (.meterreset (fields ["1"])) branch).transmitPin (.meter 0) = .space ∧
    (after (.meterreset (fields ["1"])) branch).transmitPin .host = .characters := by decide

theorem test_meterReset :
    (after (.meterReset 0) (printing .active 50 45)).runOf 0 = none ∧
      ((after (.meterReset 0) (printing .active 50 45)).fundsOf 0).available = 790300 := by decide

theorem test_meterresetBreakEnd :
    let s := withMlu branch { branch.mlu 0 with drivingBreak := true, slots := .one .A .refuse }
    ((after (.meterresetBreakEnd 0) s).mlu 0).sending = true := by decide

theorem test_breakDetected :
    let s := withMlu branch { branch.mlu 0 with rx := .collect [82] false, heldByMeter := true }
    ((after (.breakDetected 0) s).mlu 0).heldByMeter = false ∧
      ((after (.breakDetected 0) s).record 0).lastError = some .lineBreak := by decide

/-- Section 6.9.1: line down on a READY Port without a Run. -/
theorem test_lineDown :
    let s := { replaced with records := branch.records }
    (after (.lineDown 2) s).notices = [.detach 2 .ready (some (word "40112233")) 0 60000 0] ∧
      ((after (.lineDown 2) s).record 2).lineGood = false := by decide

/-- R119. -/
theorem test_lineUp : ((after (.lineUp 0) State.reset).record 0).state = .unannounced ∧
    ((after (.lineUp 0) State.reset).mlu 0).rx = .ready := by decide

theorem test_loopOn : ((after (.loopOn (fields ["1", "ON"])) (branch.setSuspended 0 true)).record 0).state =
    .loopback := by decide

theorem test_loopOff : ((after (.loopOff (fields ["1", "OFF"])) looped).record 0).state = .unannounced := by
  decide

theorem test_linetest : frame 0 (.linetest (fields ["1", "HELLO"])) looped =
    some (.echo (word "HELLO")) := by decide

/-- R144: the looped receiver hears the ECHO frame, and nothing else. -/
theorem test_linetest_echo :
    let s := after (.linetest (fields ["1", "HI"])) looped
    ((after (.characterReceived (.meter 0) 0x7B .clean) looped).mlu 0).rx = .ready ∧
      ((after (.characterReceived (.meter 0) 0x41 .clean) s).mlu 0).rx = .ready ∧
      ((after (.characterReceived (.meter 0) 0x7B .clean) s).mlu 0).rx = .collect [] false ∧
      ((after (.meterSlotFree 0) s).mlu 0).onLoop = some (.echo (word "HI")) := by decide

/-- The looped Port with the echo of section 7.6 up to its close marker, its slot freed already. -/
def echoing : State := withMlu looped { looped.mlu 0 with
  rx := .collect (word "ECHO;HI~" ++ checkDigits (checkSum (word "ECHO;HI"))) false, testInFlight := true
  sentEcho := some (.echo (word "HI")) }

/-- R142: the close marker that comes round after the slot has freed ends the test COMPLETE too. -/
theorem test_loopbackTestEnd :
    ((after (.loopbackTestEnd 0 none) echoing).record 0).loopResult = some ⟨none, word "HI"⟩ ∧
      ((after (.characterReceived (.meter 0) 0x7D .clean) echoing).record 0).loopResult =
        some ⟨none, word "HI"⟩ := by decide

theorem test_loopbackTestTimeout : ((after (.loopbackTestTimeout 0) echoing).record 0).loopResult =
    some ⟨some .gap, []⟩ := by decide

/-- Section 7.7, step 7: the third queued record calls for HOLD. -/
theorem test_done_third_queued :
    let s := withMlu (printing .active 15 10) { full (branch.mlu 0) with
      inputs := [⟨doneVerb, []⟩, ⟨doneVerb, []⟩], owed := some (.halt 37) }
    ((after (.done 0 (fields ["37", "1", "0"])) s).mlu 0).flowOut = some .hold ∧
      ((after (.done 0 (fields ["37", "1", "0"])) s).mlu 0).inputs.length = 3 := by decide

/-- Section 7.7, steps 1 and 8. -/
theorem test_hold : ((after (.hold 0) branch).mlu 0).heldByMeter = true := by decide

theorem test_go :
    ((after (.go 0) (withMlu branch { full (branch.mlu 0) with heldByMeter := true })).mlu 0).sending =
      true := by decide

/-- R138, R175: a HOLD that waited has gone when the meter's next character comes, its parity bit at one; that
of a GO is at zero. -/
theorem test_go_flowSent :
    let s := withMlu branch { full (branch.mlu 0) with
      sending := true, heldByUs := true, flowOut := some .hold, flowWaiting := true }
    s.flowSent 0 = none ∧ (after (.go 0) s).flowSent 0 = some (0x0E, true) ∧
      parityBit (Flow.char .go) = false := by decide

/-- Section 7.7, step 9: the Owed Frame goes ahead of the queue. -/
theorem test_meterSlotFree :
    let s := withMlu branch { full (branch.mlu 0) with
      sending := true, owed := some (.halt 14), inputs := [⟨doneVerb, []⟩] }
    ((after (.meterSlotFree 0) s).mlu 0).slots = .two .B (.grant 14 5) (.halt 14) ∧
      ((after (.meterSlotFree 0) s).mlu 0).inputs.length = 1 := by decide

/-- A body of a frame up to its close marker, with the check of R173. -/
def body (s : String) : Text := word s ++ word "~" ++ checkDigits (checkSum (word s))

theorem test_meterFrameComplete :
    frame 0 (.meterFrameComplete 0) (withMlu (printing .active 25 0)
      { branch.mlu 0 with rx := .collect (body "DONE;37;20;1") false }) = some (.ack 37 5) := by decide

theorem test_meterFrameError :
    ((after (.meterFrameError 0 .check) (withMlu branch
      { branch.mlu 0 with rx := .collect [] false })).record 0).lastError = some .check := by decide

/-! ### The host line and the receivers -/

theorem test_hostUnknownVerb : (reply (.hostUnknownVerb (word "ABCDEFGHIJKLMNOP") []) branch).map
    HostReply.body = some (word "ABCDEFGHIJKL;NO;UNKNOWN;0") := by decide

/-- The host receiver collecting a body. -/
def hearing (rx : Receiver) : State := branch.setHost { branch.host with rx := rx }

theorem test_hostFrameComplete :
    (reply .hostFrameComplete (hearing (.collect (body "COUNT;3;0") false))) =
      some (.no .count .state 1 none) := by decide

theorem test_hostFrameError : reply (.hostFrameError .check) (hearing (.collect [] false)) =
      some (.frame .check) ∧
    (after (.hostFrameError .check) (hearing (.collect [] false))).host.frameError = true := by decide

/-- R151: a reply that has begun stays, one that has not is discarded. -/
theorem test_hostBreak :
    let s := branch.setHost { branch.host with slots := .two .A (.frame .check) (.frame .gap) }
    (after (.hostBreak true) s).host.slots = .one .A (.frame .check) ∧
      (after (.hostBreak false) s).host.slots = .empty .A := by decide

/-- R151, step 3: only slot B is emptied, and the next reply goes into it. -/
theorem test_hostBreak_one :
    let s := branch.setHost { branch.host with slots := .one .B (.frame .check) }
    (after (.hostBreak false) s).host.slots = .empty .B := by decide

/-- Section 8.5, time 53: a slot frees and the oldest held request is taken. -/
theorem test_hostSlotFree :
    let s := branch.setHost { branch.host with
      slots := .two .A (.frame .check) (.frame .gap), hold := [⟨word "CLEARNEXT", []⟩, ⟨[], []⟩] }
    (after .hostSlotFree s).host.slots = .two .B (.frame .gap) (.ok .clearnext []) ∧
      (after .hostSlotFree s).host.hold = [⟨[], []⟩] := by decide

/-- R159, R171, R176: a restart reads the straps again, whatever they are then, here at the end of its reply
and at a break. -/
theorem test_hostSlotFree_restart :
    let s := branch.setHost { branch.host with
      slots := .one .A (.ok .restart []), restartPending := some .restart }
    (after .hostSlotFree s).host.speed = speedOf (Config.pinsFound 0) ∧
      (after (.hostBreak false) s).host.speed = speedOf (Config.pinsFound 0) := ⟨rfl, rfl⟩

/-- R131: a flow character does not touch the frame being collected. -/
theorem test_hostFlowCharacter : (after (.hostFlowCharacter .hold) (hearing (.collect [70] false))).host.rx =
    .collect [70] false := by decide

theorem test_idleGapElapsed : (after (.idleGapElapsed (.meter 0)) (withMlu branch
    { branch.mlu 0 with rx := .idleWait })).mlu 0 = { branch.mlu 0 with rx := .ready } := by decide

theorem test_intercharacterLimitExpiry :
    reply (.intercharacterLimitExpiry .host) (hearing (.collect [70] false)) = some (.frame .gap) := by decide

theorem test_messageLimitExpiry :
    ((after (.messageLimitExpiry (.meter 0)) (withMlu branch
      { branch.mlu 0 with rx := .collect [70] false })).record 0).lastError = some .tooslow := by decide

/-- R126: a character with an error does not begin a frame. -/
theorem test_characterReceived :
    (after (.characterReceived .host 0x7B .stopBit) (hearing .ready)).host.rx = .idleWait ∧
      (after (.characterReceived .host 0x7B .clean) (hearing .ready)).host.rx = .collect [] false := by
  decide

/-- R127: the frame reaches the limit of a meter line, 80 characters, without its close marker. -/
theorem test_characterReceived_overlength :
    ((after (.characterReceived (.meter 0) 65 .clean) (withMlu branch
      { branch.mlu 0 with rx := .collect (List.replicate 78 65) false })).record 0).lastError =
        some .overlength := by decide

/-! ### Notices, status, restarts and power -/

theorem test_notices :
    let s := { branch with notices := [.rateswitch 413 412 0, .locked], lost := true }
    (reply (.notices []) s).map HostReply.body =
        some (word "NOTICES;OK;1;2;0;RATESWITCH;;413;412;0;LOCKED;") ∧
      (after (.notices []) s).notices = [] := by decide

theorem test_status : (reply (.status []) branch).map HostReply.body =
    some (word "STATUS;OK;NORMAL;412;0;310;0;0;9600;") := by decide

theorem test_status_locked : (reply (.status []) locked).map HostReply.body =
    some (word "STATUS;OK;LOCKED;0;0;0;0;1;9600;") := by decide

theorem test_restart : (after (.restart []) branch).host.restartPending = some .restart := by decide

theorem test_reinit : (after (.reinit []) locked).ret = Retained.initial ∧
    (after (.reinit []) locked).lockMark = false := by decide

/-- Section 10.5: the figures stand at supply failing. -/
theorem test_supplyFailing : (after (.supplyFailing true) (printing .active 50 45)).power = .stopped ∧
    (after (.supplyFailing true) (printing .active 50 45)).ret = (printing .active 50 45).ret := by decide

theorem test_resetAsserted : (after .resetAsserted branch).power = .stopped ∧
    (after .resetAsserted branch).resetIn = true := by decide

/-- Section 10.5: a start-up with the check word missing is LOCKED. -/
theorem test_startUp_locked :
    let s := { printing .active 50 45 with power := .stopped, checkWord := none }
    (after (.startUp pins false) s).notices = [.startup .start true 0, .locked] ∧
      (after (.startUp pins false) s).host.speed = .baud115200 := by decide

/-- Section 10.5: the closures of a start-up, here at the end of a RESTART's reply. -/
theorem test_restartStartUp :
    let s := (printing .active 50 45).setHost { branch.host with
      slots := .one .A (.ok .restart []), restartPending := some .restart }
    (after (.restartStartUp pins) s).notices =
        [.startup .restart false 1, .runend 0 37 .restart 500 50 0 1534 76700] ∧
      ((after (.restartStartUp pins) s).fundsOf 0).available = 790300 := by decide

theorem test_reinitStartUp :
    let s := State.reset.setHost { State.reset.host with
      slots := .one .A (.ok .reinit []), restartPending := some .reinit }
    (after (.reinitStartUp pins) s).notices = [.startup .reinit false 0] := by decide

/-- The queue of commands: the front one is carried out with the rest. -/
theorem test_step :
    (match step { branch with pending := [.clearnext [], .status []] } with
      | .next t => t.pending
      | _ => []) = [.status []] := by decide

/-- No word spells a command (log entry 24). -/
theorem test_withFetchWord : State.reset.withFetchWord 16 1 = State.reset := rfl

/-! ### Well-formed terms -/

theorem test_wellFormed_request : (Instr.refill (fields ["1", "500"])).wellFormed = true := by decide

/-- A separator cannot stand inside a field. -/
theorem test_illFormed_separator : (Instr.refill [word "1;500"]).wellFormed = false := by decide

/-- A brace cannot stand inside a field. -/
theorem test_illFormed_marker : (Instr.linetest [word "1", [0x7B]]).wellFormed = false := by decide

/-- A frame longer than a meter line admits. -/
theorem test_illFormed_long : (Instr.meterUnknownVerb 0 (List.replicate 76 65) []).wellFormed = false := by
  decide

/-- A frame longer than the host line admits. -/
theorem test_illFormed_longRequest : (Instr.linetest [word "1", List.replicate 230 65]).wellFormed = false := by
  decide +kernel

theorem test_illFormed_band : (Instr.band (fields ["1", "1", "", "", ""])).wellFormed = false := by decide

theorem test_illFormed_bandRemove : (Instr.bandRemove (fields ["1", "1", "5", "", ""])).wellFormed = false := by
  decide

theorem test_illFormed_loopOn : (Instr.loopOn (fields ["1", "OFF"])).wellFormed = false := by decide

theorem test_illFormed_loopOff : (Instr.loopOff (fields ["1", "ON"])).wellFormed = false := by decide

theorem test_illFormed_unknownVerb : (Instr.hostUnknownVerb (word "FUNDS") []).wellFormed = false := by decide

theorem test_illFormed_meterVerb : (Instr.meterUnknownVerb 0 (word "RUN") []).wellFormed = false := by decide

/-- The host line has no parity bit. -/
theorem test_illFormed_hostParity : (Instr.hostFrameError .parity).wellFormed = false ∧
    (Instr.characterReceived .host 65 .parity).wellFormed = false := by decide

theorem test_illFormed_break : (Instr.meterFrameError 0 .lineBreak).wellFormed = false ∧
    (Instr.loopbackTestEnd 0 (some .lineBreak)).wellFormed = false := by decide

/-- A flow character received cleanly is a row of its own. -/
theorem test_illFormed_flow : (Instr.characterReceived (.meter 0) 0x0E .clean).wellFormed = false := by decide

/-! ### Witnesses: the hypotheses of the statements are met -/

theorem branch_ready : branch.HostReady := ⟨⟨rfl, rfl, rfl, rfl⟩, rfl⟩

theorem waiting_ready : waiting.HostReady := ⟨⟨rfl, rfl, rfl, rfl⟩, rfl⟩

theorem branch_free (p : Port) : branch.MeterFree p :=
  ⟨rfl, by revert p; decide, by revert p; decide, by revert p; decide, by revert p; decide⟩

theorem printing_free (state : RunState) (g n : Nat) (p : Port) : (printing state g n).MeterFree p :=
  ⟨rfl, (branch_free p).attached, (branch_free p).inputs, (branch_free p).owed, (branch_free p).slot⟩

theorem unannounced_free (p : Port) : unannounced.MeterFree p :=
  ⟨rfl, by revert p; decide, by revert p; decide, by revert p; decide, by revert p; decide⟩

/-- The branch of section 12.3 before its step 5, with the Order of that step queued: the state in which
the laws are shown to have something to keep. -/
def busy : State :=
  { waiting with
    ret := { waiting.ret with credited := 298000 }
    pending := [.refill (fields ["311", "500000"])] }

theorem busy_runs : ∀ p, busy.runOf p = if p = 1 then busy.runOf 1 else none := by decide

theorem busy_noRun {p : Port} (h : p ≠ 1) : busy.runOf p = none := by rw [busy_runs, if_neg h]

theorem busy_portSound (p : Port) : busy.PortSound p := by
  by_cases h : p = 1
  · subst h
    have e : ∀ r, busy.runOf 1 = some r →
        r = { id := 9, state := .waiting, pieces := 300, level := 2, block := 20, edition := 412, charge := 821
              total := 246300, granted := 0, printed := 0, spoiled := 0, waitDeadline := some 120
              silenceDeadline := none, cancelRequested := false } := fun r h => (Option.some.inj h).symm
    refine ⟨?_, ?_, ?_, ?_, by decide, by decide, by decide, by decide⟩
    · intro r hr
      rw [e r hr]
      exact ⟨by decide, by decide, by decide, by decide, by decide, by decide, by decide, by decide,
        by decide⟩
    · intro hr
      exact absurd hr (by decide)
    · intro r hr _
      rw [e r hr]
      exact ⟨rfl, by decide⟩
    · intro r hr hw
      rw [e r hr] at hw
      exact absurd rfl hw
  · have e := busy_noRun h
    refine ⟨?_, ?_, ?_, ?_, ?_, ?_, ?_, ?_⟩
    · intro r hr
      rw [e] at hr
      cases hr
    · intro _
      revert p
      decide
    · intro r hr
      rw [e] at hr
      cases hr
    · intro r hr
      rw [e] at hr
      cases hr
    all_goals
      revert p
      decide

theorem busy_accounts : busy.Accounts where
  balanced := by
    unfold State.Balanced
    decide
  ports := busy_portSound
  owed := by
    intro p
    have h : (busy.mlu p).owed = none := by revert p; decide
    unfold State.OwedSound
    rw [h]
    trivial
  queue := ⟨by decide, by
    intro p
    by_cases h : p = 1
    · subst h
      exact ⟨fun _ => ⟨_, rfl, rfl⟩, fun _ => by decide⟩
    · constructor
      · intro hp
        exact absurd (List.mem_singleton.1 hp) h
      · rintro ⟨r, hr, _⟩
        rw [busy_noRun h] at hr
        cases hr⟩

theorem busy_stock (i : Fin 24) : (busy.stockLine i).Sound := by
  have h : busy.stockLine i = StockLine.initial := by revert i; decide
  rw [h]
  exact ⟨by decide, by decide, by decide, fun h => absurd rfl h, fun _ => rfl⟩

theorem busy_unlocked : busy.LockedSound := fun h => absurd h (by decide)

theorem busy_steps : ∃ t, step busy = .next t := ⟨_, rfl⟩

theorem witness_StepRunsFrontCommand : busy.pending = .refill (fields ["311", "500000"]) :: [] ∧
    branch.pending = [] := ⟨rfl, rfl⟩

theorem witness_StoppedPartTakesNoEvent : ({ branch with power := .stopped } : State).power = .stopped ∧
    ∀ pins failed, Instr.supplyFailing true ≠ .startUp pins failed := ⟨rfl, fun _ _ => nofun⟩

/-- The laws have a state that meets them, with a Run waiting and a step to take. -/
theorem witness_AccountsBalanceAtEveryStep : (∃ t, step busy = .next t) ∧ busy.Accounts ∧
    (∀ i, (busy.stockLine i).Sound) ∧ busy.LockedSound :=
  ⟨busy_steps, busy_accounts, busy_stock, busy_unlocked⟩

theorem witness_PoolNeverCoversWaitingHead : (∃ t, step busy = .next t) ∧ busy.Accounts ∧
    (∀ i, (busy.stockLine i).Sound) ∧ busy.LockedSound ∧ busy.HeadUnservable ∧ busy.ret.queue = [1] := by
  refine ⟨busy_steps, busy_accounts, busy_stock, busy_unlocked, ?_, rfl⟩
  intro p rest hq r hr
  cases hq
  cases hr
  decide

theorem witness_RunsStayOnReadyPorts : (∃ t, step busy = .next t) ∧ busy.RunsOnReady ∧
    busy.ProfilesSound ∧ busy.LinesSound := by
  have hp : ∀ p, (busy.record p).profile = some profile := by decide
  refine ⟨busy_steps, ?_, ⟨fun _ => by decide, by decide, ?_⟩, ?_⟩
  · intro p _
    revert p
    decide
  · intro p q hq
    rw [hp] at hq
    cases hq
    exact ⟨by decide, by decide, by decide, by decide⟩
  · unfold State.LinesSound
    decide

theorem edition412_sound : edition412.Sound := by
  have hb : ∀ c k, ((edition412.bands.get c).get k).all (fun b =>
      1 ≤ b.lower && b.lower ≤ b.upper && b.upper ≤ 20000 && b.rate ≤ 999999) = true := by decide
  have hs : ∀ l, (edition412.surcharges.get l).all (· ≤ 99999) = true := by decide
  have ht : ∀ k, (edition412.tiers.get k).all (fun u =>
      2 ≤ u.minimum && u.minimum ≤ 9999 && u.perMille ≤ 500) = true := by decide
  refine ⟨by decide, ?_, ?_, ?_⟩
  · intro c k b h
    have := hb c k
    rw [h] at this
    simpa [Band.Sound, weightMax, and_assoc] using this
  · intro l a h
    have := hs l
    rw [h] at this
    simpa using this
  · intro k u h
    have := ht k
    rw [h] at this
    simpa [Tier.Sound, and_assoc] using this

theorem empty_sound : RateTable.empty.Sound := by
  refine ⟨by decide, ?_, ?_, ?_⟩
  · intro c k b h
    have e : ∀ c k, (RateTable.empty.bands.get c).get k = none := by decide
    rw [e] at h
    cases h
  · intro l a h
    have e : ∀ l, RateTable.empty.surcharges.get l = none := by decide
    rw [e] at h
    cases h
  · intro k u h
    have e : ∀ k, RateTable.empty.tiers.get k = none := by decide
    rw [e] at h
    cases h

theorem witness_RateTablesStaySound : (∃ t, step busy = .next t) ∧ busy.TablesSound :=
  ⟨busy_steps, edition412_sound, empty_sound, by decide, by decide, by decide⟩

theorem witness_AllotmentLevelsStayInRange : (∃ t, step busy = .next t) ∧ busy.lockMark = false ∧
    ∀ p, (busy.fundsOf p).LevelsSound :=
  ⟨busy_steps, rfl, fun p => ⟨by revert p; decide, by revert p; decide, by revert p; decide,
    by revert p; decide, by revert p; decide⟩⟩

theorem witness_BranchFiguresStayInRange : (∃ t, step busy = .next t) ∧ busy.InRange :=
  ⟨busy_steps, by decide, by decide, by decide, by decide, by decide, by decide, by decide, by decide⟩

theorem witness_StockLinesStayInRange : (∃ t, step busy = .next t) ∧ ∀ i, (busy.stockLine i).Sound :=
  ⟨busy_steps, busy_stock⟩

theorem witness_QueuesStayBounded : (∃ t, step busy = .next t) ∧ busy.BuffersBounded :=
  ⟨busy_steps, by decide, by decide, by decide⟩

theorem witness_LockedContentsStayZero :
    (∃ t, step { locked with pending := [.status []] } = .next t) ∧ locked.lockMark = true ∧
      ({ locked with pending := [.status []] } : State).LockedSound :=
  ⟨⟨_, rfl⟩, rfl, fun _ => rfl⟩

theorem witness_LifetimeTotalsNeverFall : ∃ t, step busy = .next t ∧ t.lockMark = busy.lockMark :=
  ⟨_, rfl, by decide⟩

/-! #### Frames and the host line -/

/-- A frame of exactly 80 characters, the limit of a meter line. -/
theorem witness_LaidFrameIsHeardBack : receivable 80 (word "A") [List.replicate 73 65] = true ∧
    (layFrame (joinFields (word "A") [List.replicate 73 65])).length = 80 := by decide +kernel

theorem witness_CharactersMakeRequest :
    hostRequest (.refill (fields ["311", "5"])) = some (.refill, fields ["311", "5"]) ∧
      hostReceivable .refill (fields ["311", "5"]) = true ∧ (hearing .ready).HostFree ∧
      (hearing .ready).host.rx = .ready := ⟨rfl, by decide, ⟨rfl, rfl, rfl, rfl⟩, rfl⟩

theorem witness_WrittenNumberIsReadBack : (1 ≤ 1 ∧ 1 ≤ 20 ∧ 9 < 10 ^ 1) ∧
    (1 ≤ 20 ∧ 20 ≤ 20 ∧ 99999999999999999999 < 10 ^ 20) := by decide

/-- Each check of R152: an unknown verb, a verb in LOCKED, a wrong number of fields in either device state,
and a first field of one digit too many. -/
theorem witness_RequestChecksBeforeBlock :
    (branch.HostFree ∧ verbOf (word "REFILLS") = none) ∧
      (hostRequest (.funds []) = some (.funds, []) ∧ locked.HostFree ∧ locked.lockMark = true ∧
        HostVerb.funds ≠ .status ∧ HostVerb.funds ≠ .reinit) ∧
      (hostRequest (.status (fields [""])) = some (.status, fields [""]) ∧ locked.HostFree ∧
        (fields [""]).length ≠ HostVerb.status.fieldCount) ∧
      (hostRequest (.refill (fields ["1"])) = some (.refill, fields ["1"]) ∧ branch.lockMark = false ∧
        (fields ["1"]).length ≠ HostVerb.refill.fieldCount) ∧
      hostRequest (.refill (fields ["1234567", "1"])) = some (.refill, fields ["1234567", "1"]) ∧
        (fields ["1234567", "1"]).length = HostVerb.refill.fieldCount ∧
        HostVerb.refill.firstDigits = some 6 ∧ readNumber 6 (word "1234567") = none := by
  refine ⟨⟨branch_ready.toHostFree, by decide⟩,
    ⟨rfl, ⟨rfl, rfl, rfl, rfl⟩, rfl, by decide, by decide⟩,
    ⟨rfl, ⟨rfl, rfl, rfl, rfl⟩, by decide⟩, ⟨rfl, rfl, by decide⟩, rfl, rfl, rfl, by decide⟩

theorem witness_RepliesAreOkAdjOrNo : hostRequest (.tier (fields ["4", "1", "600"])) =
    some (.tier, fields ["4", "1", "600"]) ∧ branch.HostFree := ⟨rfl, branch_ready.toHostFree⟩

/-- The host slots full, with `n` requests held. -/
def hostFull (n : Nat) : State := branch.setHost { branch.host with
  slots := .two .A (.frame .check) (.frame .gap), hold := List.replicate n ⟨word "FUNDS", []⟩ }

/-- A restart pending, its reply in a slot and another before it. -/
def restarting (c : Cause) : State := branch.setHost { branch.host with
  slots := .two .A (.frame .check) (.ok .restart []), restartPending := some c }

/-- The reply of a pending restart alone in a slot, not begun. -/
def lastReply (c : Cause) : State := branch.setHost { branch.host with
  slots := .one .A (.ok .restart []), restartPending := some c }

theorem witness_RequestWaitsOrIsLost :
    hostRequest (.funds []) = some (.funds, []) ∧ (hostFull 1).power = .running ∧
      (hostFull 1).host.slots.hasFree = false ∧ (hostFull 1).host.hold.length < 2 ∧
      (hostFull 2).host.slots.hasFree = false ∧ 2 ≤ (hostFull 2).host.hold.length ∧
      (restarting .restart).host.restartPending ≠ none := by decide

theorem witness_FreedHostSlotTakesHeldRequest :
    ((hostFull 0).power = .running ∧ (hostFull 0).host.slots.first = some (.frame .check) ∧
      (hostFull 0).host.hold = [] ∧ (hostFull 0).host.restartPending = none) ∧
      ((hostFull 1).host.hold = ⟨word "FUNDS", []⟩ :: [] ∧ (hostFull 1).host.slots.hasFree = false ∧
        (hostFull 1).host.restartPending = none) ∧
      (restarting .restart).host.slots.first = some (.frame .check) ∧
        (restarting .restart).host.restartPending ≠ none ∧
        (HostReply.frame .check).isRestart = false := by decide

/-- Both slots holding replies, and slot B alone. -/
theorem witness_HostBreakDiscardsUnsentReplies :
    ((hostFull 2).power = .running ∧ (hostFull 2).host.restartPending = none) ∧
      (branch.setHost { branch.host with slots := .one .B (.frame .check) }).power = .running ∧
        (branch.setHost { branch.host with slots := .one .B (.frame .check) }).host.restartPending = none := by
  decide

theorem witness_HostFrameEnds :
    ((hearing (.collect (body "FUNDS") false)).HostFree ∧
      (hearing (.collect (body "FUNDS") false)).host.rx = .collect (body "FUNDS") false ∧
      awaitsClose (body "FUNDS") = true ∧ checkAgrees (body "FUNDS") = true) ∧
      (hearing (.collect [] true)).power = .running ∧ (hearing (.collect [] true)).host.rx = .collect [] true ∧
        FaultReason.framing ≠ .parity ∧ FaultReason.framing ≠ .lineBreak :=
  ⟨⟨⟨rfl, rfl, rfl, rfl⟩, rfl, by decide, by decide⟩, rfl, rfl, by decide, by decide⟩

/-- Port 1's receiver in a state. -/
def receiving (rx : Receiver) : State := withMlu branch { branch.mlu 0 with rx := rx }

theorem witness_ReceiverTimers :
    ((hearing .idleWait).power = .running ∧ (hearing .idleWait).host.rx = .idleWait) ∧
      (let s := (hostFull 0).setHost { (hostFull 0).host with rx := .collect [] false };
        s.power = .running ∧ s.host.rx = .collect [] false ∧ s.host.slots.hasFree = false) ∧
      ((hearing (.collect [] true)).host.rx = .collect [] true ∧
        (hearing (.collect [] true)).host.slots.hasFree = true ∧
        (hearing (.collect [] true)).host.restartPending = none) ∧
      (let s := (lastReply .restart).setHost { (lastReply .restart).host with rx := .collect [] false };
        s.power = .running ∧ s.host.rx = .collect [] false ∧ s.host.slots.hasFree = true ∧
          s.host.restartPending ≠ none) ∧
      ((receiving .idleWait).power = .running ∧ ((receiving .idleWait).record 0).state.attached = true ∧
        ((receiving .idleWait).mlu 0).rx = .idleWait) ∧
      ((receiving (.collect [] true)).record 0).state.attached = true ∧
        ((receiving (.collect [] true)).mlu 0).rx = .collect [] true := by decide

/-- Characters at the ends of their ranges: the last that a frame of each line has room for, and a flow
character as a receiver in IDLE-WAIT, READY and COLLECT meets it. -/
theorem witness_CharactersReceived :
    (hearing .idleWait).host.rx = .idleWait ∧ (hearing .ready).host.rx = .ready ∧
      ((0x7A : Chr) ≠ 0x7B ∧ (0x7A : Chr) ≠ 0x0E ∧ (0x7A : Chr) ≠ 0x0F) ∧
      ((hearing (.collect (List.replicate 237 65) false)).host.rx = .collect (List.replicate 237 65) false ∧
        continues (List.replicate 237 65) 0x7A = true ∧ (List.replicate 237 (65 : Chr)).length + 2 < 240) ∧
      (((receiving (.collect (List.replicate 77 65) false)).mlu 0).rx = .collect (List.replicate 77 65) false ∧
        ((receiving (.collect (List.replicate 77 65) false)).record 0).state.attached = true ∧
        continues (List.replicate 77 65) 0x20 = true ∧ (List.replicate 77 (65 : Chr)).length + 2 < 80) ∧
      ∀ body, (hearing (.collect [70] false)).host.rx ≠ .collect body true := by
  refine ⟨rfl, rfl, by decide, ⟨rfl, by decide +kernel, by decide +kernel⟩, ⟨rfl, rfl, by decide +kernel,
    by decide +kernel⟩, ?_⟩
  intro body h
  cases h

/-- What the receiver makes of a character, at the ends of the characters' and the frames' ranges; its
outcomes on a line, each in a state that has it; and a looped Port round which nothing comes. -/
theorem witness_CharactersReceived_outcomes :
    ((0x7B : Chr) ≠ 0x7B ∨ CharError.stopBit ≠ .clean) ∧
      (continues [] 0x20 = true ∧ ([] : Text).length + 2 < 3 ∧ 2 ≤ ([] : Text).length + 2) ∧
      (continues [] 0x1F = false ∧ (0x1F : Chr) ≠ 0x7D) ∧
      (∀ m ∈ [80, 240], (List.replicate (m - 2) (65 : Chr)).length + 2 = m ∧
        continues (List.replicate (m - 2) 65) 0x1F = false) ∧
      (continues (word "A") 0x7D = false ∧ awaitsClose (word "A") = false) ∧
      (awaitsClose (word "A~00") = true ∧ checkAgrees (word "A~00") = false) ∧
      (awaitsClose (body "A") = true ∧ checkAgrees (body "A") = true) ∧
      ((Receiver.receive 240 0x7B .clean (hearing .ready).host.rx).2 = none ∧
        (Receiver.receive 80 0x7B .clean ((receiving .ready).mlu 0).rx).2 = none) ∧
      ((Receiver.receive 240 0x7D .clean (hearing (.collect (body "FUNDS") false)).host.rx).2 =
          some (.complete ⟨word "FUNDS", []⟩) ∧ (hearing (.collect (body "FUNDS") false)).HostFree) ∧
      ((Receiver.receive 80 0x7D .clean ((receiving (.collect (body "RUN") false)).mlu 0).rx).2 =
          some (.complete ⟨word "RUN", []⟩) ∧ (receiving (.collect (body "RUN") false)).MeterFree 0) ∧
      ((Receiver.receive 240 0 .stopBit (hearing (.collect [] true)).host.rx).2 = some (.fault .framing) ∧
        (hearing (.collect [] true)).power = .running) ∧
      ((Receiver.receive 80 0x0E .parity ((receiving (.collect [] false)).mlu 0).rx).2 =
          some (.fault .parity) ∧ CharError.parity ≠ .clean ∧
        ((receiving (.collect [] false)).record 0).state.attached = true) ∧
      looped.power = .running ∧ (looped.record 0).state = .loopback ∧
        ((looped.mlu 0).slots.first = none ∧ (looped.mlu 0).sentEcho = none) ∧
        ((looped.mlu 0).rx = .ready ∧ (looped.mlu 0).testInFlight = false) :=
  ⟨by decide, by decide, by decide, by decide +kernel, by decide, by decide, by decide, by decide,
    ⟨by decide, ⟨rfl, rfl, rfl, rfl⟩⟩, ⟨by decide, ⟨rfl, rfl, rfl, rfl, rfl⟩⟩, by decide, by decide, by decide⟩

/-! #### Orders, Allotments and rates -/

/-- The amounts at both ends of their range and one past each, on an Order with the next number. -/
theorem witness_RefillCreditsPoolAndRunsPass : waiting.HostReady ∧ readNumber 6 (word "311") = some 311 ∧
    readNumber 8 (word "9999999") = some 9999999 ∧ readNumber 8 (word "10000000") = some 10000000 ∧
    readNumber 8 (word "0") = some 0 := ⟨waiting_ready, by decide⟩

theorem witness_WithdrawDebitsPool : branch.HostReady ∧ readNumber 6 (word "311") = some 311 ∧
    readNumber 8 (word "1000000") = some 1000000 ∧ branch.ret.pool = 1000000 := ⟨branch_ready, by decide⟩

theorem witness_SpoilrefRefundsAndRunsPass : spoiled.HostReady ∧ readNumber 6 (word "311") = some 311 ∧
    readNumber 1 (word "1") = some 1 ∧ readNumber 13 (word "1") = some 1 ∧
    readNumber 8 (word "1534") = some 1534 := ⟨⟨⟨rfl, rfl, rfl, rfl⟩, rfl⟩, by decide⟩

theorem witness_RecallMovesAvailableToPool : branch.HostReady ∧ readNumber 1 (word "6") = some 6 ∧
    readNumber 1 (word "7") = some 7 ∧ readOptional 8 [] = some none ∧
    readOptional 8 (word "80000") = some (some 80000) := ⟨branch_ready, by decide⟩

/-- A Port with the figures of a low-mark check, the pool and the queue. -/
def levelled (available pool : Nat) (queue : List Port) : State :=
  { branch with ret := { branch.ret with
      pool := pool
      queue := queue
      funds := branch.ret.funds.set 0 { PortFunds.initial with available := available } } }

/-- The five outcomes of the low-mark check, at the ends of the ranges of Available and of the pool (Low
Mark 20,000 and Target 100,000). -/
theorem witness_LevelsStoredAndChecked :
    (branch.HostReady ∧ readNumber 1 (word "1") = some 1 ∧ readOptional 8 (word "9999999") = some (some 9999999) ∧
      readOptional 8 [] = some none) ∧
      ((levelled 100000 0 []).fundsOf 0).target ≤ ((levelled 100000 0 []).fundsOf 0).available ∧
      (((levelled 20000 0 []).fundsOf 0).lowMark ≤ ((levelled 20000 0 []).fundsOf 0).available ∧
        ((levelled 20000 0 []).fundsOf 0).available < ((levelled 20000 0 []).fundsOf 0).target) ∧
      (((levelled 19999 0 [1]).fundsOf 0).available < ((levelled 19999 0 [1]).fundsOf 0).lowMark ∧
        ((levelled 19999 0 [1]).fundsOf 0).available < ((levelled 19999 0 [1]).fundsOf 0).target ∧
        (levelled 19999 0 [1]).ret.queue ≠ []) ∧
      ((levelled 19999 80001 []).ret.queue = [] ∧
        min (((levelled 19999 80001 []).fundsOf 0).target - ((levelled 19999 80001 []).fundsOf 0).available)
          (99999999 - (levelled 19999 80001 []).holding 0) ≤ (levelled 19999 80001 []).ret.pool) ∧
      (levelled 19999 80000 []).ret.queue = [] ∧ (levelled 19999 80000 []).ret.pool <
        min (((levelled 19999 80000 []).fundsOf 0).target - ((levelled 19999 80000 []).fundsOf 0).available)
          (99999999 - (levelled 19999 80000 []).holding 0) :=
  ⟨⟨branch_ready, by decide, by decide, by decide⟩, by decide⟩

theorem witness_LimitsStored : branch.HostReady ∧ readNumber 1 (word "1") = some 1 ∧
    readOptional 8 [] = some none ∧ readOptional 3 (word "4") = some (some 4) ∧
    readOptional 3 (word "601") = some (some 601) := ⟨branch_ready, by decide⟩

/-- A Port left short, with its Available and the pool as given. -/
def shortOf (available pool : Nat) : State :=
  (levelled available pool []).setFunds 0
    { PortFunds.initial with available := available, short := true }

/-- A head that the pool just covers and one it just does not (Run 9 needs 241,300 of it), no head, and the
outcomes of a visit at the ends of the ranges of Available and of the pool. -/
theorem witness_PassServesQueueInOrder : busy.Accounts ∧
    ((waiting.setPool 241300).ret.queue = 1 :: [] ∧ ∃ r, (waiting.setPool 241300).runOf 1 = some r ∧
      r.total ≤ ((waiting.setPool 241300).fundsOf 1).available + (waiting.setPool 241300).ret.pool) ∧
    ((waiting.setPool 241299).ret.queue = 1 :: [] ∧ ∃ r, (waiting.setPool 241299).runOf 1 = some r ∧
      ((waiting.setPool 241299).fundsOf 1).available + (waiting.setPool 241299).ret.pool < r.total) ∧
    branch.ret.queue = [] ∧ (branch.fundsOf 0).short = false ∧
    (((shortOf 100000 0).fundsOf 0).short = true ∧
      ((shortOf 100000 0).fundsOf 0).target ≤ ((shortOf 100000 0).fundsOf 0).available) ∧
    (((shortOf 99999 1).fundsOf 0).available < ((shortOf 99999 1).fundsOf 0).target ∧
      min (((shortOf 99999 1).fundsOf 0).target - ((shortOf 99999 1).fundsOf 0).available)
        (99999999 - (shortOf 99999 1).holding 0) ≤ (shortOf 99999 1).ret.pool) ∧
    (shortOf 99999 0).ret.pool <
      min (((shortOf 99999 0).fundsOf 0).target - ((shortOf 99999 0).fundsOf 0).available)
        (99999999 - (shortOf 99999 0).holding 0) :=
  ⟨busy_accounts, ⟨by decide, _, rfl, by decide⟩, ⟨by decide, _, rfl, by decide⟩, by decide⟩

theorem witness_BandStoredOrRemoved : branch.HostReady ∧ readNumber 1 (word "8") = some ((7 : Fin 8).val + 1) ∧
    readNumber 2 (word "10") = some ((9 : Fin 10).val + 1) ∧ readNumber 6 (word "0") = some 0 ∧
    readOptional 6 (word "20001") = some (some 20001) ∧ readOptional 7 (word "1000000") = some (some 1000000) ∧
    readOptional 6 [] = some none ∧ readOptional 7 [] = some none ∧
    (readNumber 1 (word "9") = some 9 ∧ (9 < 1 ∨ 8 < 9)) ∧
    (readNumber 1 (word "1") = some 1 ∧ 1 ≤ 1 ∧ 1 ≤ 8) ∧
    readNumber 2 (word "11") = some 11 ∧ (11 < 1 ∨ 10 < 11) := ⟨branch_ready, by decide⟩

theorem witness_SurchargesAndTiersStored : branch.HostReady ∧ readOptional 6 (word "99999") = some (some 99999) ∧
    readOptional 6 (word "100000") = some (some 100000) ∧ (∀ l, word "G" ≠ [Letter.char l]) ∧
    (∀ l, ([] : Text) ≠ [Letter.char l]) ∧ readNumber 1 (word "4") = some ((3 : Fin 4).val + 1) ∧
    readOptional 5 (word "1") = some (some 1) ∧ readOptional 4 (word "501") = some (some 501) ∧
    readNumber 1 (word "5") = some 5 ∧ (5 < 1 ∨ 4 < 5) ∧ readNumber 1 (word "0") = some 0 ∧
    readOptional 5 [] = some none ∧ readOptional 4 [] = some none :=
  ⟨branch_ready, by decide, by decide, fun l => by cases l <;> decide, fun l => by cases l <;> decide,
    by decide, by decide, by decide, by decide, by decide, by decide, by decide, by decide⟩

theorem witness_NextNumberedClearedActivated : branch.HostReady ∧ loaded.HostReady ∧
    readNumber 5 (word "413") = some 413 ∧ loaded.ret.next.edition = 413 :=
  ⟨branch_ready, ⟨⟨rfl, rfl, rfl, rfl⟩, rfl⟩, by decide, rfl⟩

/-- Section 3.5.2: a class with no band, a weight on either side of every band, a weight in two bands at
once, and a weight in a gap. -/
theorem witness_BandLookupTakesNarrowestBand :
    edition412.classBands 4 = [] ∧
      (edition412.classBands 3 ≠ [] ∧ (∀ e ∈ edition412.classBands 3, 0 < e.2.lower) ∧
        ∀ e ∈ edition412.classBands 3, e.2.upper < 101) ∧
      (∃ e ∈ edition412.classBands 5, e.2.lower ≤ 100 ∧ 100 ≤ e.2.upper) ∧
      (∀ e ∈ edition412.classBands 3, ¬(e.2.lower ≤ 21 ∧ 21 ≤ e.2.upper)) ∧
      (∃ e ∈ edition412.classBands 3, e.2.lower ≤ 21) ∧ ∃ e ∈ edition412.classBands 3, 21 ≤ e.2.upper := by
  decide +kernel

/-- The first figures of section 3.5.1. -/
theorem charge412 : computeCharge edition412 2 118 (some [.B]) 500 =
    .ok ⟨412, 2, 2, 1240, 45, 1184, 1534, 767000⟩ := by
  have h : (computeCharge edition412 2 118 (some [.B]) 500).toOption =
      some ⟨412, 2, 2, 1240, 45, 1184, 1534, 767000⟩ := by decide +kernel
  cases e : computeCharge edition412 2 118 (some [.B]) 500 with
  | error f =>
    rw [e] at h
    cases h
  | ok r =>
    rw [e] at h
    cases h
    rfl

theorem witness_QuoteComputesCharge : branch.HostReady ∧
    (word "LAST" ≠ [] ∧ word "LAST" ≠ word "CURRENT" ∧ word "LAST" ≠ word "NEXT") ∧
    (readNumber 1 (word "2") = some 2 ∧ readNumber 5 (word "118") = some 118 ∧
      readNumber 5 (word "9999") = some 9999) ∧
    (readLetters (word "Z") = none ∧ (readLetters (word "B")).isSome = true ∧ readNumber 5 [] = none) ∧
    ∃ r, computeCharge edition412 2 118 (some [.B]) 500 = .ok r :=
  ⟨branch_ready, by decide, by decide, by decide, ⟨_, charge412⟩⟩

/-- Tiers of Edition 412 just below and at the least minimum, and each fault of the computation: a class with
no band, a surcharge it lacks and one it has, a charge of 0, and totals on either side of a balance. -/
theorem witness_QuoteComputesCharge_faults :
    (∀ e ∈ presentSlots edition412.tiers, 99 < e.2.minimum) ∧
      (∃ e ∈ presentSlots edition412.tiers, e.2.minimum ≤ 100) ∧
      bandLookup (edition412.classBands 4) 118 = .error .noclass ∧
      bandLookup (edition412.classBands 7) 2000 = .ok (1, ⟨1, 2000, 25000⟩) ∧
      bandLookup (edition412.classBands 8) 50 = .ok (1, ⟨1, 50, 0⟩) ∧
      (∃ l ∈ [Letter.C], edition412.surcharges.get (Letter.index l) = none) ∧
      (∀ l ∈ [Letter.A, .B, .D], edition412.surcharges.get (Letter.index l) ≠ none) ∧
      (0 * (1000 - (edition412.tierFor 1).2) + 500) / 1000 = 0 ∧
      ((25000 * (1000 - (edition412.tierFor 4301).2) + 500) / 1000) * 4301 ≤ 99999999 ∧
      99999999 < ((25000 * (1000 - (edition412.tierFor 4302).2) + 500) / 1000) * 4302 :=
  ⟨by decide, by decide, rfl, rfl, rfl, by decide, by decide, by decide, by decide +kernel,
    by decide +kernel⟩

/-! #### Runs -/

theorem witness_CancelByStateOfRun : waiting.HostReady ∧ readNumber 1 (word "2") = some 2 ∧
    ((withMlu (printing .active 0 0) { branch.mlu 0 with owed := some (.runok 37 412 1534 25) }).mlu 0).owed =
      some (.runok 37 412 1534 25) ∧
    ((branch.mlu 0).slots.hasFree = true ∧ (branch.mlu 0).owed = none) ∧
    (full (branch.mlu 0)).slots.hasFree = false := ⟨waiting_ready, by decide⟩

/-- Each refusal of R61 with its Port, and an admission at once on Port 1 and to the queue's tail on Port
3 of `waiting`. -/
theorem witness_RunAdmission :
    ((readNumber 1 (word "2") = some 2 ∧ readNumber 5 (word "118") = some 118 ∧
      readNumber 5 (word "500") = some 500) ∧
      (branch.MeterFree 0 ∧ (branch.record 0).state ≠ .refused ∧ branch.lockMark = false ∧
        branch.suspendedOf 0 = false ∧ (branch.record 0).state = .ready ∧
        (branch.record 0).profile = some profile) ∧
      ({ branch with lockMark := true, ret := Retained.locked } : State).MeterFree 0 ∧
      (branch.setSuspended 0 true).suspendedOf 0 = true ∧ (printing .active 50 45).runOf 0 ≠ none ∧
      (unannounced.setOffer ⟨[2], [], 9999, 25⟩).MeterFree 0 ∧
      ((unannounced.setOffer ⟨[2], [], 9999, 25⟩).record 0).state = .unannounced ∧
      1 ∉ (unannounced.setOffer ⟨[2], [], 9999, 25⟩).ret.offer.classes) ∧
    (branch.runOf 0 = none ∧ 1 ≤ 500 ∧ 500 ≤ profile.maxRun ∧ 2 ∈ profile.classes ∧
      readLetters (word "B") = some [.B] ∧ (∀ l ∈ [Letter.B], l ∈ profile.surcharges) ∧
      ∃ r, computeCharge branch.ret.current 2 118 (some [.B]) 500 = .ok r ∧
        r.total ≤ (branch.fundsOf 0).runLimit ∧ (branch.fundsOf 0).usedValue + r.total ≤ 999999999999) ∧
    waiting.MeterFree 2 ∧ waiting.runOf 2 = none ∧ waiting.ret.queue ≠ [] ∧
      (waiting.fundsOf 2).available < 767000 := by
  refine ⟨⟨by decide, ⟨branch_free 0, by decide⟩, ⟨rfl, rfl, rfl, rfl, rfl⟩, by decide, by decide,
    ⟨rfl, rfl, rfl, rfl, rfl⟩, by decide⟩, ⟨by decide, by decide, by decide, by decide, by decide, by decide,
      ⟨_, charge412, by decide, by decide⟩⟩, ⟨rfl, rfl, rfl, rfl, rfl⟩, by decide⟩

/-- Port 1 READY with a Profile that holds every class of Edition 412. -/
def allClasses : State := branch.setRecord 0
  { branch.record 0 with profile := some { profile with classes := [1, 2, 3, 5, 7, 8] } }

theorem allClasses_free : allClasses.MeterFree 0 := ⟨rfl, rfl, rfl, rfl, rfl⟩

/-- The fault of a computation that fails. -/
def faultOf {α : Type} : Except ChargeFault α → Option ChargeFault
  | .error e => some e
  | .ok _ => none

theorem eq_error {α : Type} {x : Except ChargeFault α} {e : ChargeFault} (h : faultOf x = some e) :
    x = .error e := by
  cases x <;> cases h
  rfl

/-- The Basic Profile; records with fields missing or faulty; and each refusal of R62, at the ends of the
ranges of the pieces and of the limits. -/
theorem witness_RunAdmission_refusals :
    (unannounced.MeterFree 0 ∧ unannounced.lockMark = false ∧ unannounced.suspendedOf 0 = false ∧
      (unannounced.record 0).state = .unannounced ∧ 1 ∈ unannounced.ret.offer.classes) ∧
      ((fields ["2", "118", ""]).length ≠ 4 ∧ readNumber 1 (word "12") = none ∧
        readNumber 5 (word "123456") = none ∧ readNumber 5 [] = none) ∧
      (allClasses.MeterFree 0 ∧ (allClasses.record 0).state = .ready ∧ allClasses.runOf 0 = none) ∧
      ((0 < 1 ∨ 9999 < 0) ∧ (10000 < 1 ∨ 9999 < 10000) ∧ 4 ∉ [1, 2, 3, 5, 7, 8]) ∧
      computeCharge edition412 1 118 (some []) 1 = .error .noclass ∧
      computeCharge edition412 3 101 (some []) 1 = .error .noband ∧
      computeCharge edition412 2 118 none 1 = .error .nosurch ∧
      computeCharge edition412 8 50 (some []) 1 = .error .zero ∧
      computeCharge edition412 7 2000 (some []) 9999 = .error .overflow ∧
      ((branch.setFunds 0 { branch.fundsOf 0 with runLimit := 766999 }).fundsOf 0).runLimit < 767000 ∧
      767000 ≤ (branch.fundsOf 0).runLimit ∧
      999999999999 <
        ((branch.setFunds 0 { branch.fundsOf 0 with usedValue := 999999233000 }).fundsOf 0).usedValue +
          767000 :=
  ⟨⟨unannounced_free 0, by decide⟩, by decide, ⟨allClasses_free, by decide⟩, by decide,
    eq_error (by decide +kernel), eq_error (by decide +kernel), eq_error (by decide +kernel),
    eq_error (by decide +kernel), eq_error (by decide +kernel), by decide, by decide, by decide⟩

/-- A Run Total that Available just covers and one it just does not; and the three shapes of a frame
composed into a free slot. -/
theorem witness_RunAdmission_operations :
    (80000 ≤ (branch.fundsOf 0).available ∧ (branch.fundsOf 0).available < 80001) ∧
      (((printing .active 50 45).mlu 0).slots.hasFree = true ∧
        (printing .active 50 45).runOf 0 = some (run37 .active 50 45)) ∧
      (∀ i e q b, MeterFrame.wait 37 ≠ .runok i e q b) ∧ (∀ i b, MeterFrame.wait 37 ≠ .grant i b) ∧
      ∀ i, MeterFrame.wait 37 ≠ .halt i :=
  ⟨by decide, by decide, nofun, nofun, nofun⟩

/-- A report on no Run, on another id and on a WAITING Run, and one on an ACTIVE Run that a clamp lowers. -/
theorem witness_DoneCountsAndAnswers :
    (waiting.MeterFree 1 ∧ (waiting.record 1).state ≠ .refused ∧ readNumber 4 (word "9") = some 9 ∧
      readNumber 4 (word "1") = some 1 ∧ readOptional 4 [] = some none ∧
      ∀ r, waiting.runOf 1 = some r → r.id ≠ 9 ∨ r.state = .waiting) ∧
      (printing .active 50 45).MeterFree 0 ∧ ((printing .active 50 45).record 0).state ≠ .refused ∧
        (printing .active 50 45).runOf 0 = some (run37 .active 50 45) ∧
        (run37 .active 50 45).state ≠ .waiting ∧ readNumber 4 (word "37") = some (run37 .active 50 45).id :=
  ⟨⟨⟨rfl, rfl, rfl, rfl, rfl⟩, by decide, by decide, by decide, by decide, fun r h => by
      cases h
      exact .inr rfl⟩,
    printing_free _ _ _ _, by decide, rfl, by decide, by decide⟩

/-- Reports of one field too few and one too many. -/
theorem witness_reportFields : branch.MeterFree 0 ∧ (branch.record 0).state ≠ .refused ∧
    ((fields ["37"]).length ≠ 2 ∧ (fields ["37"]).length ≠ 3) ∧
    (fields ["37", "1", "0", ""]).length ≠ 2 ∧ (fields ["37", "1", "0", ""]).length ≠ 3 :=
  ⟨branch_free 0, by decide⟩

theorem witness_StopReturnsUnprintedPieces :
    (branch.MeterFree 0 ∧ (branch.record 0).state ≠ .refused ∧ readNumber 4 (word "36") = some 36 ∧
      readNumber 4 (word "3") = some 3 ∧ readOptional 4 (word "0") = some (some 0) ∧
      ∀ r, branch.runOf 0 = some r → r.id ≠ 36) ∧
      (waiting.MeterFree 1 ∧ ∃ r, waiting.runOf 1 = some r ∧ r.state = .waiting ∧
        readNumber 4 (word "9") = some r.id) ∧
      (printing .cancelling 75 50).MeterFree 0 ∧
        (printing .cancelling 75 50).runOf 0 = some (run37 .cancelling 75 50) ∧
        (run37 .cancelling 75 50).state ≠ .waiting ∧ readNumber 4 (word "37") = some 37 :=
  ⟨⟨branch_free 0, by decide, by decide, by decide, by decide, fun r h => by
      have e : branch.runOf 0 = none := by decide
      rw [e] at h
      cases h⟩,
    ⟨⟨rfl, rfl, rfl, rfl, rfl⟩, ⟨_, rfl, rfl, by decide⟩⟩, printing_free _ _ _ _, rfl, by decide, by decide⟩

theorem witness_RunTimersCloseRuns :
    ((printing .active 50 45).power = .running ∧
      (printing .active 50 45).runOf 0 = some (run37 .active 50 45) ∧
      (run37 .active 50 45).state ≠ .waiting) ∧
      waiting.power = .running ∧ ∃ r, waiting.runOf 1 = some r ∧ r.state = .waiting :=
  ⟨⟨rfl, rfl, by decide⟩, rfl, ⟨_, rfl, rfl⟩⟩

/-! #### Stock and reports -/

/-- Line 3, and the last line with the ends of the ranges of its figures. -/
theorem witness_LineDefined : branch.HostReady ∧ StockState.retired ≠ .undefinedLine ∧
    readNumber 2 (word "24") = some ((23 : Fin 24).val + 1) ∧ readNumber 5 (word "9999") = some 9999 ∧
    readNumber 5 (word "0") = some 0 := ⟨branch_ready, by decide⟩

theorem witness_ReceivePaysFromPool : (stocked .onSale 0 500000).HostReady ∧
    readNumber 2 (word "3") = some ((2 : Fin 24).val + 1) ∧ readNumber 5 (word "2000") = some 2000 ∧
    readNumber 5 (word "10000") = some 10000 := ⟨⟨⟨rfl, rfl, rfl, rfl⟩, rfl⟩, by decide⟩

theorem witness_StockSoldOrReturned : (stocked .retired 652 0).HostReady ∧
    readNumber 2 (word "3") = some ((2 : Fin 24).val + 1) ∧ readNumber 5 (word "652") = some 652 ∧
    readNumber 5 (word "653") = some 653 := ⟨⟨⟨rfl, rfl, rfl, rfl⟩, rfl⟩, by decide⟩

theorem witness_CountSettlesBook : (stocked .onSale 1660 0).HostReady ∧
    readNumber 2 (word "3") = some ((2 : Fin 24).val + 1) ∧ readNumber 5 (word "1660") = some 1660 ∧
    readNumber 5 (word "1659") = some 1659 ∧ readNumber 5 (word "1661") = some 1661 :=
  ⟨⟨⟨rfl, rfl, rfl, rfl⟩, rfl⟩, by decide⟩

theorem witness_ReportsChangeNothing : branch.HostReady ∧ readNumber 1 (word "6") = some 6 ∧
    readNumber 1 (word "7") = some 7 ∧ readNumber 2 (word "24") = some ((23 : Fin 24).val + 1) ∧
    readNumber 2 (word "16") = some 16 ∧ readNumber 2 (word "17") = some 17 := ⟨branch_ready, by decide⟩

/-! #### Ports and the meter lines -/

theorem witness_OfferReplaced : branch.HostReady ∧ readOptional 5 (word "10000") = some (some 10000) ∧
    readOptional 3 [] = some none := ⟨branch_ready, by decide⟩

theorem witness_PortSuspendedOrResumed : waiting.HostReady ∧ readNumber 1 (word "2") = some 2 :=
  ⟨waiting_ready, by decide⟩

theorem witness_PortrepReadsAndClears : branch.HostReady ∧ readNumber 1 (word "1") = some 1 :=
  ⟨branch_ready, by decide⟩

theorem witness_AnnouncementResolved : replaced.MeterFree 2 ∧ readNumber 1 (word "1") = some 1 ∧
    (word "40119876").length = 8 ∧ (∀ c ∈ word "40119876", (digitValue c).isSome = true) ∧
    readClasses (word "1234") = some [1, 2, 3, 4] ∧ readLetters (word "ABC") = some [.A, .B, .C] ∧
    readNumber 4 (word "2000") = some 2000 ∧ readNumber 2 (word "10") = some 10 :=
  ⟨⟨rfl, rfl, rfl, rfl, rfl⟩, by decide⟩

theorem witness_MeterResetTaken :
    (looped.HostReady ∧ readNumber 1 (word "1") = some ((0 : Port).val + 1) ∧
      (looped.record 0).state = .loopback) ∧
      (State.reset.HostReady ∧ (State.reset.record 0).state = .absent) ∧
      ((printing .active 50 45).HostReady ∧ ((printing .active 50 45).record 0).state.attached = true ∧
        (printing .active 50 45).power = .running) ∧
      ((withMlu branch { branch.mlu 0 with drivingBreak := true }).mlu 0).drivingBreak = true ∧
      (((receiving (.collect [] true)).record 0).state.attached = true ∧
        ((receiving (.collect [] true)).mlu 0).rx = .collect [] true) ∧
      ∀ body atSpace, (branch.mlu 0).rx ≠ .collect body atSpace := by
  refine ⟨⟨⟨⟨rfl, rfl, rfl, rfl⟩, rfl⟩, by decide, by decide⟩, ⟨⟨⟨rfl, rfl, rfl, rfl⟩, rfl⟩, by decide⟩,
    ⟨⟨⟨rfl, rfl, rfl, rfl⟩, rfl⟩, by decide, rfl⟩, by decide, by decide, ?_⟩
  intro body atSpace h
  have e : (branch.mlu 0).rx = .ready := by decide
  rw [e] at h
  cases h

theorem witness_LineDownAndLineUp :
    ((printing .active 50 45).power = .running ∧ ((printing .active 50 45).record 0).state.attached = true ∧
      ((printing .active 50 45).mlu 0).lineUp = true) ∧
      ((State.reset.record 0).state = .absent ∧ (State.reset.mlu 0).lineUp = false) ∧
      ((looped.record 0).state = .loopback ∧ (looped.mlu 0).lineUp = true) ∧
      ((withMlu looped { looped.mlu 0 with lineUp := false }).record 0).state = .loopback ∧
        ((withMlu looped { looped.mlu 0 with lineUp := false }).mlu 0).lineUp = false := by decide

theorem witness_LoopbackEnteredAndLeft : (branch.setSuspended 0 true).HostReady ∧ looped.HostReady ∧
    readNumber 1 (word "1") = some 1 :=
  ⟨⟨⟨rfl, rfl, rfl, rfl⟩, rfl⟩, ⟨⟨rfl, rfl, rfl, rfl⟩, rfl⟩, by decide⟩

theorem witness_LineTestStartsAndEnds :
    (looped.HostReady ∧ readNumber 1 (word "1") = some 1) ∧
      (echoing.power = .running ∧ (echoing.record 0).state = .loopback ∧ (echoing.mlu 0).testInFlight = true) ∧
      ((echoing.mlu 0).rx = .collect (body "ECHO;HI") false ∧ awaitsClose (body "ECHO;HI") = true ∧
        checkAgrees (body "ECHO;HI") = true) ∧
      (echoing.mlu 0).slots.first = none := ⟨⟨⟨⟨rfl, rfl, rfl, rfl⟩, rfl⟩, by decide⟩, by decide⟩

/-- The echo on the loop at its first character, and at its close marker: before its slot frees, and
after. -/
theorem witness_LineTestStartsAndEnds_loop :
    let echo : MeterFrame := .echo (word "HI")
    let held : State := withMlu echoing
      { echoing.mlu 0 with slots := .one .A echo, sending := true, sentEcho := none }
    (held.power = .running ∧ (held.record 0).state = .loopback ∧ (held.mlu 0).sending = true ∧
        (held.mlu 0).slots = .one .A echo ∧ (held.mlu 0).testInFlight = true) ∧
      ((held.mlu 0).rx = .collect (body "ECHO;HI") false ∧
        echo.onLine[(body "ECHO;HI").length + 1]? = some 0x7D) ∧
      ((echoing.mlu 0).slots.first = none ∧ (echoing.mlu 0).sentEcho = some echo) ∧
      (echo.onLine[([] : Text).length + 1]? = some 0x45 ∧ continues [] 0x45 = true ∧
        ((withMlu held { held.mlu 0 with rx := .collect [] false }).mlu 0).rx = .collect [] false) := by
  decide

/-- Port 1 with both slots full and `n` records queued. -/
def backlog (n : Nat) (held : Bool) : State := withMlu branch
  { full (branch.mlu 0) with inputs := List.replicate n ⟨doneVerb, []⟩, heldByUs := held }

/-- The Input Queue at each length at which a record's outcome changes. -/
theorem witness_MeterFramesReceived :
    ((receiving (.collect (body "RUN") false)).MeterFree 0 ∧
      ((receiving (.collect (body "RUN") false)).mlu 0).rx = .collect (body "RUN") false ∧
      awaitsClose (body "RUN") = true ∧ checkAgrees (body "RUN") = true) ∧
      (((receiving (.collect [] true)).mlu 0).rx = .collect [] true ∧
        ((receiving (.collect [] true)).record 0).state.attached = true) ∧
      (branch.MeterFree 0 ∧ word "RUNS" ∉ meterVerbs) ∧
      ((attachedAs .refused none).MeterFree 0 ∧ ((attachedAs .refused none).record 0).state = .refused) ∧
      (meterRecord (.done 0 []) = some (0, ⟨doneVerb, []⟩) ∧
        ((backlog 3 true).mlu 0).slots.hasFree = false ∧ ((backlog 3 true).record 0).state.attached = true) ∧
      (((backlog 3 true).mlu 0).inputs.length < 4 ∧ ((backlog 3 true).mlu 0).inputs.length ≠ 2) ∧
      (((backlog 2 true).mlu 0).inputs.length < 4 ∧ ((backlog 2 true).mlu 0).heldByUs = true) ∧
      (((backlog 2 false).mlu 0).inputs.length = 2 ∧ ((backlog 2 false).mlu 0).heldByUs = false) ∧
      4 ≤ ((backlog 4 true).mlu 0).inputs.length :=
  ⟨⟨⟨rfl, rfl, rfl, rfl, rfl⟩, by decide⟩, by decide, ⟨branch_free 0, by decide⟩,
    ⟨⟨rfl, rfl, rfl, rfl, rfl⟩, by decide⟩, by decide⟩

/-- Port 1 sending from slot B alone. -/
def lastFrame (m : Mlu) : State := withMlu branch { m with slots := .one .B .refuse, sending := true }

/-- Both slots held, with an Owed Frame ahead of a queued record, with records queued alone and with neither;
one slot held with each of the three; and a flow character of the meter on an attached Port, an ABSENT one
and a looped one. -/
theorem witness_MeterTransmitter :
    (∀ n, n = 0 ∨ n = 2 →
      let s := withMlu (backlog n false) { (backlog n false).mlu 0 with sending := true }
      s.power = .running ∧ (s.record 0).state.attached = true ∧ (s.mlu 0).sending = true ∧
        (s.mlu 0).slots.hasFree = false ∧ (s.mlu 0).owed = none ∧ (s.mlu 0).inputs.length = n) ∧
      (let s := withMlu (backlog 2 false)
          { (backlog 2 false).mlu 0 with sending := true, owed := some (.halt 14) };
        (s.mlu 0).owed = some (.halt 14) ∧ (s.mlu 0).slots.hasFree = false ∧ (s.mlu 0).inputs ≠ []) ∧
      (∀ m ∈ [branch.mlu 0, { branch.mlu 0 with owed := some (.halt 14) },
          { branch.mlu 0 with inputs := [⟨doneVerb, []⟩] }],
        (lastFrame m).power = .running ∧ ((lastFrame m).record 0).state.attached = true ∧
          ((lastFrame m).mlu 0).sending = true ∧ ((lastFrame m).mlu 0).slots = .one .B .refuse ∧
          ((lastFrame m).mlu 0).owed = m.owed ∧ ((lastFrame m).mlu 0).inputs = m.inputs) ∧
      ((branch.record 0).state ≠ .loopback ∧ (State.reset.record 0).state = .absent ∧
        State.reset.power = .running ∧ (looped.record 0).state = .loopback ∧ looped.power = .running) ∧
      (∀ f, ((withMlu branch { branch.mlu 0 with flowOut := some f }).mlu 0).flowWaiting = false ∧
        ((withMlu branch { branch.mlu 0 with flowOut := some f }).mlu 0).flowOut = some f) ∧
      ∀ body, (branch.mlu 0).rx ≠ .collect body true := by
  refine ⟨?_, by decide, by decide, by decide, ?_, ?_⟩
  · rintro n (rfl | rfl) <;> decide
  · intro f
    cases f <;> decide
  · intro body h
    have e : (branch.mlu 0).rx = .ready := by decide
    rw [e] at h
    cases h

/-! #### Notices, restarts and power -/

/-- The Notice Queue with room for one more, and full. -/
theorem witness_NoticesAndStatusRead : branch.HostReady ∧ locked.HostFree ∧
    ({ branch with notices := List.replicate 31 .locked } : State).notices.length < 32 ∧
    32 ≤ ({ branch with notices := List.replicate 32 .locked } : State).notices.length :=
  ⟨branch_ready, ⟨rfl, rfl, rfl, rfl⟩, by decide, by decide⟩

theorem witness_RestartsFollowTheirReply : branch.HostReady ∧ (locked.HostFree ∧ locked.lockMark = true) ∧
    (∀ c, (lastReply c).power = .running ∧ (lastReply c).host.slots.first = some (.ok .restart []) ∧
      (HostReply.ok .restart []).isRestart = true ∧ (lastReply c).host.restartPending = some c ∧
      (lastReply c).host.begun = false ∧ ∀ a x y, (lastReply c).host.slots ≠ .two a x y) ∧
    (∀ c, (restarting c).power = .running ∧ (restarting c).host.restartPending = some c ∧
      (restarting c).host.slots = .two .A (.frame .check) (.ok .restart []) ∧
      (HostReply.frame .check).isRestart = false) ∧
    (∀ c, (lastReply c).host.slots = .one .A (.ok .restart []) ∧
      ((lastReply c).host.begun = true ∨ true = true)) :=
  ⟨branch_ready, ⟨⟨rfl, rfl, rfl, rfl⟩, rfl⟩, fun _ => ⟨rfl, rfl, rfl, rfl, rfl, fun _ _ _ => nofun⟩,
    fun _ => ⟨rfl, rfl, rfl, rfl⟩, fun _ => ⟨rfl, .inr rfl⟩⟩

/-- A part that runs and one that has stopped, in LOCKED, with a check word that agrees and with none. -/
theorem witness_StopAndStartUp : branch.power = .running ∧
    (({ locked with power := .stopped } : State).power = .stopped ∧ locked.lockMark = true) ∧
    (({ State.reset with power := .stopped } : State).checkWord =
      some (Config.checkWord State.reset.ret) ∧ State.reset.lockMark = false) ∧
    ({ branch with power := .stopped, checkWord := none } : State).checkWord ≠
      some (Config.checkWord branch.ret) ∧
    (State.reset.record 0).state = .absent ∧ (looped.record 0).state = .loopback :=
  ⟨rfl, ⟨rfl, rfl⟩, ⟨rfl, rfl⟩, nofun, by decide⟩

end Sys2Proof.Tests
end

/-! SUPPORT. The outcome of a request read check by check, and the Orders on the Credit Pool (R5, R6). -/

namespace Sys2Proof.Machine

/-! ### The outcome of a request, check by check -/

/-- The next state that a block's answer to a request leaves: a refusal composes its reply alone, and an
acceptance its state and reply (R149, R154). -/
def State.outcome (s : State) (v : HostVerb) (x : Answered) : Host.Outcome State Fault Refusal :=
  .next (match x with
    | .error e => s.reply (.no v e.word e.pos e.extra)
    | .ok r => r.1.reply r.2)

/-- A request taken at once has the outcome of its block's answer (R152). -/
theorem exec_request_outcome {i : Instr} {v : HostVerb} {fs : List Text}
    (hi : hostRequest i = some (v, fs)) {s : State} (h : s.HostReady) (hn : fs.length = v.fieldCount) :
    exec i s = s.outcome v (perform v fs s) := by
  rw [exec_request_ready hi h hn]
  cases perform v fs s <;> rfl

section

variable (s : State) (v : HostVerb)

theorem outcome_ok (t : State) (r : HostReply) : s.outcome v (.ok (t, r)) = .next (t.reply r) := rfl

/-- A number field that is readable is passed with its value (R153). -/
theorem outcome_number {fs : List Text} {pos most n : Nat} (h : readNumber most (fieldAt fs pos) = some n)
    (k : Nat → Answered) : s.outcome v (number fs pos most >>= k) = s.outcome v (k n) := by
  rw [(number_eq_ok fs pos most n).2 h, ok_bind]

/-- A check refuses where its condition holds, and otherwise the next check decides (R154). -/
theorem outcome_refuseIf (b : Prop) [Decidable b] (w : RefusalWord) (pos : Nat) (k : Unit → Answered) :
    s.outcome v (refuseIf b w pos >>= k) =
      if b then s.refusal v w pos else s.outcome v (k ()) := by
  by_cases h : b
  · rw [refuseIf_of w pos h, if_pos h]
    rfl
  · rw [refuseIf_of_not w pos h, if_neg h, ok_bind]

/-- The three checks of an Order's number, in order (R4, checks 2 to 4). -/
theorem outcome_checkOrderNumber (order : Nat) (k : Unit → Answered) :
    s.outcome v (checkOrderNumber order s >>= k) =
      if s.ret.lastOrder = 999999 then s.refusal v .exhausted 0
      else if order ≤ s.ret.lastOrder then
        .next (s.reply (.no v .duplicate 1 (some s.ret.lastOrder)))
      else if s.ret.lastOrder + 1 < order then
        .next (s.reply (.no v .gap 1 (some s.ret.lastOrder)))
      else s.outcome v (k ()) := by
  unfold checkOrderNumber Config.orderNumberMax
  split_ifs <;> rfl

end

/-! ### REFILL and WITHDRAW -/

/-- Settles O26: the checks of R4 and R5 one after another, and then the state that `refillRequest`
leaves. -/
theorem refillCreditsPoolAndRunsPass : Obligations.RefillCreditsPoolAndRunsPass := by
  intro s fo fa order amount hs ho ha
  rw [exec_request_outcome (v := .refill) rfl hs rfl, perform, refillRequest, outcome_number s _ ho,
    outcome_number s _ ha, outcome_checkOrderNumber, outcome_refuseIf, outcome_refuseIf,
    outcome_refuseIf]
  rfl

/-- Settles O27: the checks of R4 and R6 one after another, and then the state that `withdrawRequest`
leaves, whose pool the ORDER Notice does not change. -/
theorem withdrawDebitsPool : Obligations.WithdrawDebitsPool := by
  intro s fo fa order amount hs ho ha
  rw [exec_request_outcome (v := .withdraw) rfl hs rfl, perform, withdrawRequest, outcome_number s _ ho,
    outcome_number s _ ha, outcome_checkOrderNumber, outcome_refuseIf, outcome_refuseIf,
    outcome_refuseIf, outcome_refuseIf]
  simp only [pure_eq_ok, outcome_ok, State.withdrawn, State.post_ret]
  rfl

end Sys2Proof.Machine

/-! SUPPORT. The books of the part: the accounts with the Stock Lines they rest on, and the rules by which
an operation keeps them. An operation either leaves the ledger alone, moves value between the Credit Pool
and one Port, or changes the branch figures and the stock. -/

namespace Sys2Proof.Machine

/-- The accounts together with the soundness of the Stock Lines, which the movements of stock rest on. -/
structure State.Books (s : State) : Prop extends s.Accounts where
  stock : ∀ i, (s.stockLine i).Sound

/-- The part of a state that the accounts read. -/
structure Ledger where
  pool : Nat
  credited : Nat
  withdrawn : Nat
  surplus : Nat
  shortage : Nat
  funds : Vector PortFunds 6
  runs : Vector (Option Run) 6
  queue : List Port
  stock : Vector StockLine 24
  owed : Port → Option MeterFrame

/-- The ledger of a state. -/
def State.ledger (s : State) : Ledger :=
  ⟨s.ret.pool, s.ret.credited, s.ret.withdrawn, s.ret.surplus, s.ret.shortage, s.ret.funds, s.ret.runs,
    s.ret.queue, s.ret.stock, fun p => (s.mlu p).owed⟩

/-- What a Port's Allotment holds or has used: its part of the balance (R14). -/
def PortFunds.worth (f : PortFunds) : Nat := f.available + f.reserved + f.usedValue

/-- Whether a Port's Run is WAITING. -/
def State.Waits (s : State) (p : Port) : Prop := ∃ r, s.runOf p = some r ∧ r.state = .waiting

/-- From `s` to `t` the ledger moves value between the Credit Pool and Port `p` alone, and the two together
keep their worth. The Waiting Run Queue is free. -/
structure MovesAt (p : Port) (s t : State) : Prop where
  worth : t.ret.pool + (t.fundsOf p).worth = s.ret.pool + (s.fundsOf p).worth
  credited : t.ret.credited = s.ret.credited
  withdrawn : t.ret.withdrawn = s.ret.withdrawn
  surplus : t.ret.surplus = s.ret.surplus
  shortage : t.ret.shortage = s.ret.shortage
  stock : t.ret.stock = s.ret.stock
  funds : ∀ q, q ≠ p → t.fundsOf q = s.fundsOf q
  runs : ∀ q, q ≠ p → t.runOf q = s.runOf q
  owed : ∀ q, q ≠ p → (t.mlu q).owed = (s.mlu q).owed

/-! ### What the laws of a Port read -/

section

variable {s t : State} {p : Port}

theorem outstandingValue_congr (hr : t.runOf p = s.runOf p) :
    t.outstandingValue p = s.outstandingValue p := by
  simp only [State.outstandingValue, hr]

theorem outstandingPieces_congr (hr : t.runOf p = s.runOf p) :
    t.outstandingPieces p = s.outstandingPieces p := by
  simp only [State.outstandingPieces, hr]

/-- The funds of a Port replaced beside the same Run: its Reserved and what it used stand, and its
Available rises at most by its Headroom. -/
theorem State.PortSound.of_funds (h : s.PortSound p) (hr : t.runOf p = s.runOf p)
    (hres : (t.fundsOf p).reserved = (s.fundsOf p).reserved)
    (hused : (t.fundsOf p).usedValue = (s.fundsOf p).usedValue)
    (hpieces : (t.fundsOf p).usedPieces = (s.fundsOf p).usedPieces)
    (hsv : (t.fundsOf p).spoilValue ≤ (s.fundsOf p).spoilValue)
    (hsp : (t.fundsOf p).spoilPieces ≤ (s.fundsOf p).spoilPieces)
    (hav : (t.fundsOf p).available ≤ (s.fundsOf p).available + s.headroom p) : t.PortSound p where
  sound := by rw [hr]; exact h.sound
  idle := by rw [hr, hres]; exact h.idle
  waiting := by rw [hr, hres, hused]; exact h.waiting
  held := by rw [hr, hres]; exact h.held
  holding := by
    have := h.holding
    simp only [State.headroom, State.holding, outstandingValue_congr hr, hres] at *
    omega
  usedMax := by rw [hused, hres]; exact h.usedMax
  spoilValue := by
    have := h.spoilValue
    rw [outstandingValue_congr hr, hused]
    omega
  spoilPieces := by
    have := h.spoilPieces
    rw [outstandingPieces_congr hr, hpieces]
    omega

theorem State.PortSound.congr (h : s.PortSound p) (hf : t.fundsOf p = s.fundsOf p)
    (hr : t.runOf p = s.runOf p) : t.PortSound p :=
  h.of_funds hr (by rw [hf]) (by rw [hf]) (by rw [hf]) (by rw [hf]) (by rw [hf]) (by rw [hf]; omega)

theorem State.OwedSound.congr (h : s.OwedSound p) (ho : (t.mlu p).owed = (s.mlu p).owed)
    (hr : t.runOf p = s.runOf p) : t.OwedSound p := by
  unfold State.OwedSound at *
  rw [ho, hr]
  exact h

theorem waits_congr (hr : t.runOf p = s.runOf p) : t.Waits p ↔ s.Waits p := by
  simp only [State.Waits, hr]

/-- The queue law, read through `Waits`. -/
theorem State.QueueSound.mem_iff (h : s.QueueSound) : p ∈ s.ret.queue ↔ s.Waits p := h.waiting p

/-- A Port with no Run is not in the queue. -/
theorem State.QueueSound.not_mem (h : s.QueueSound) (hr : s.runOf p = none) : p ∉ s.ret.queue := by
  rw [h.mem_iff]
  rintro ⟨r, e, -⟩
  rw [hr] at e
  cases e

/-- The sum over the Ports after the funds of one are replaced. -/
theorem sumOver_of_eq_off {α : Type} {n : Nat} {v w : Vector α n} (i : Fin n) (f : α → Nat)
    (h : ∀ j, j ≠ i → w.get j = v.get j) : sumOver w f + f (v.get i) = sumOver v f + f (w.get i) := by
  have e : w = v.set i (w.get i) := by
    ext j hj
    by_cases hij : j = i
    · subst hij
      simp [Vector.get_eq_getElem]
    · have := h ⟨j, hj⟩ (fun e => hij (congrArg Fin.val e))
      simpa [Vector.get_eq_getElem, Vector.getElem_set, Ne.symm hij] using this
  rw [e]
  simpa [get_set] using sumOver_set v i (w.get i) f

/-! ### Operations that move value at one Port -/

theorem MovesAt.of_ledger (e : t.ledger = s.ledger) : MovesAt p s t := by
  have hp := congrArg Ledger.pool e
  have hf := congrArg Ledger.funds e
  have hr := congrArg Ledger.runs e
  have ho := congrArg Ledger.owed e
  have hfp : ∀ q, t.fundsOf q = s.fundsOf q := fun q => congrArg (Vector.get · q) hf
  exact
    { worth := by rw [hfp, show t.ret.pool = s.ret.pool from hp]
      credited := congrArg Ledger.credited e
      withdrawn := congrArg Ledger.withdrawn e
      surplus := congrArg Ledger.surplus e
      shortage := congrArg Ledger.shortage e
      stock := congrArg Ledger.stock e
      funds := fun q _ => hfp q
      runs := fun q _ => congrArg (Vector.get · q) hr
      owed := fun q _ => congrFun ho q }

theorem MovesAt.trans {u : State} (h : MovesAt p s t) (k : MovesAt p t u) : MovesAt p s u where
  worth := k.worth.trans h.worth
  credited := k.credited.trans h.credited
  withdrawn := k.withdrawn.trans h.withdrawn
  surplus := k.surplus.trans h.surplus
  shortage := k.shortage.trans h.shortage
  stock := k.stock.trans h.stock
  funds := fun q hq => (k.funds q hq).trans (h.funds q hq)
  runs := fun q hq => (k.runs q hq).trans (h.runs q hq)
  owed := fun q hq => (k.owed q hq).trans (h.owed q hq)

theorem MovesAt.balanced (m : MovesAt p s t) (h : s.Balanced) : t.Balanced := by
  have hsum := sumOver_of_eq_off (v := s.ret.funds) (w := t.ret.funds) p PortFunds.worth m.funds
  have hworth : t.ret.pool + (t.ret.funds.get p).worth = s.ret.pool + (s.ret.funds.get p).worth := m.worth
  change _ = _ + _ + sumOver s.ret.funds PortFunds.worth + _ + _ at h
  change _ = _ + _ + sumOver t.ret.funds PortFunds.worth + _ + _
  rw [m.credited, m.withdrawn, m.surplus, m.shortage, m.stock]
  omega

/-- A movement at one Port keeps the books when that Port's laws and the queue's hold after it. -/
theorem State.Books.move (h : s.Books) (m : MovesAt p s t) (hp : t.PortSound p) (ho : t.OwedSound p)
    (hq : t.QueueSound) : t.Books where
  balanced := m.balanced h.balanced
  ports := by
    intro q
    by_cases e : q = p
    · exact e ▸ hp
    · exact (h.ports q).congr (m.funds q e) (m.runs q e)
  owed := by
    intro q
    by_cases e : q = p
    · exact e ▸ ho
    · exact (h.owed q).congr (m.owed q e) (m.runs q e)
  queue := hq
  stock := by
    intro i
    simp only [State.stockLine, m.stock]
    exact h.stock i

/-- The queue law after a movement at Port `p`: only its own place in the queue is in question. -/
theorem State.QueueSound.move (h : s.QueueSound) (m : MovesAt p s t) (hn : t.ret.queue.Nodup)
    (hq : ∀ q, q ≠ p → (q ∈ t.ret.queue ↔ q ∈ s.ret.queue)) (hp : p ∈ t.ret.queue ↔ t.Waits p) :
    t.QueueSound where
  nodup := hn
  waiting := by
    intro q
    by_cases e : q = p
    · exact e ▸ hp
    · rw [hq q e, h.mem_iff]
      exact (waits_congr (m.runs q e)).symm

/-- A movement at one Port that leaves the queue and the waiting of its Run as they were. -/
theorem State.Books.move_inPlace (h : s.Books) (m : MovesAt p s t) (hp : t.PortSound p)
    (ho : t.OwedSound p) (hq : t.ret.queue = s.ret.queue) (hw : t.Waits p ↔ s.Waits p) : t.Books :=
  h.move m hp ho (h.queue.move m (hq ▸ h.queue.nodup) (fun _ _ => by rw [hq])
    (by rw [hq, hw]; exact h.queue.mem_iff))

/-- An operation that leaves the ledger alone keeps the books. -/
theorem State.Books.of_ledger (h : s.Books) (e : t.ledger = s.ledger) : t.Books := by
  have hr : ∀ q, t.runOf q = s.runOf q := fun q => congrArg (Vector.get · q) (congrArg Ledger.runs e)
  have hf : ∀ q, t.fundsOf q = s.fundsOf q := fun q => congrArg (Vector.get · q) (congrArg Ledger.funds e)
  have ho : (t.mlu 0).owed = (s.mlu 0).owed := congrFun (congrArg Ledger.owed e) 0
  exact h.move_inPlace (MovesAt.of_ledger (p := 0) e) ((h.ports 0).congr (hf 0) (hr 0))
    ((h.owed 0).congr ho (hr 0)) (congrArg Ledger.queue e) (waits_congr (hr 0))

/-- An operation on the branch figures and the stock keeps the books when the balance and the Stock Lines
hold after it. -/
theorem State.Books.branch (h : s.Books)
    (e : t.ledger = { s.ledger with
      pool := t.ret.pool, credited := t.ret.credited, withdrawn := t.ret.withdrawn,
      surplus := t.ret.surplus, shortage := t.ret.shortage, stock := t.ret.stock })
    (hb : t.Balanced) (hs : ∀ i, (t.stockLine i).Sound) : t.Books := by
  have hr : ∀ q, t.runOf q = s.runOf q := fun q => congrArg (fun l => l.runs.get q) e
  have hf : ∀ q, t.fundsOf q = s.fundsOf q := fun q => congrArg (fun l => l.funds.get q) e
  have hq : t.ret.queue = s.ret.queue := congrArg Ledger.queue e
  exact
    { balanced := hb
      ports := fun q => (h.ports q).congr (hf q) (hr q)
      owed := fun q => (h.owed q).congr (congrArg (fun l => l.owed q) e) (hr q)
      queue := ⟨hq ▸ h.queue.nodup, fun q => by
        rw [hq, h.queue.mem_iff]
        exact (waits_congr (hr q)).symm⟩
      stock := hs }

end

end Sys2Proof.Machine

/-! SUPPORT. What leaves the ledger alone: Notices, latched conditions, working records, the receivers, the
transmit slots and the retained contents that no law of the accounts reads. -/

namespace Sys2Proof.Machine

namespace State

variable (s : State) (p : Port)

@[simp] theorem post_ledger (n : Notice) : (s.post n).ledger = s.ledger := by
  unfold post; split <;> rfl
@[simp] theorem latch_ledger (c : Condition) : (s.latch p c).ledger = s.ledger := rfl
@[simp] theorem latchIf_ledger (b : Bool) (c : Condition) : (s.latchIf b p c).ledger = s.ledger := by
  cases b <;> rfl
@[simp] theorem latchLineError_ledger (r : FaultReason) : (s.latchLineError p r).ledger = s.ledger := rfl
@[simp] theorem setRecord_ledger (r : PortRecord) : (s.setRecord p r).ledger = s.ledger := rfl
@[simp] theorem setHost_ledger (h : HostUnit) : (s.setHost h).ledger = s.ledger := rfl
@[simp] theorem setMarking_ledger (b : Bool) : (s.setMarking p b).ledger = s.ledger := rfl
@[simp] theorem setRunId_ledger (n : Nat) : (s.setRunId p n).ledger = s.ledger := rfl
@[simp] theorem leaveReady_ledger (st : PortState) : (s.leaveReady p st).ledger = s.ledger := rfl
@[simp] theorem reply_ledger (r : HostReply) : (s.reply r).ledger = s.ledger := rfl
@[simp] theorem latchHostFrameError_ledger : s.latchHostFrameError.ledger = s.ledger := rfl

/-- A Meter Line Unit stored with the Owed Frame it had leaves the ledger alone. -/
theorem setMlu_ledger {m : Mlu} (h : m.owed = (s.mlu p).owed) : (s.setMlu p m).ledger = s.ledger := by
  have ho : (fun q => ((s.setMlu p m).mlu q).owed) = fun q => (s.mlu q).owed := by
    funext q
    by_cases e : q = p
    · simp [e, h]
    · simp [e]
  simp only [ledger, ho]
  rfl

@[simp] theorem putFrame_ledger (f : MeterFrame) : (s.putFrame p f).ledger = s.ledger :=
  setMlu_ledger s p rfl

@[simp] theorem giveBasic_ledger : (s.giveBasic p).ledger = s.ledger := by
  unfold giveBasic; split_ifs <;> simp

@[simp] theorem detectBreak_ledger : (s.detectBreak p).ledger = s.ledger := by
  unfold detectBreak
  dsimp only
  split
  · rw [setMlu_ledger _ _ (by rfl), latchLineError_ledger]
  · rw [setMlu_ledger _ _ (by rfl)]

@[simp] theorem recordSerial_ledger (t : Text) : (s.recordSerial p t).ledger = s.ledger := by
  have h : ∀ u : State,
      ({ u with ret := { u.ret with serials := u.ret.serials.set p (some t) } } : State).ledger =
        u.ledger := fun _ => rfl
  unfold recordSerial
  rw [h]
  split_ifs <;> simp

@[simp] theorem attach_ledger (a : Announcement) : (s.attach p a).1.ledger = s.ledger := by
  unfold attach
  dsimp only
  split_ifs <;> simp

@[simp] theorem endTest_ledger (r : LoopResult) : (s.endTest p r).ledger = s.ledger := by
  unfold endTest
  split_ifs
  · rw [setRecord_ledger, setMlu_ledger _ _ (by rfl)]
  · rfl

@[simp] theorem startTest_ledger (t : Text) : (s.startTest p t).ledger = s.ledger := by
  rw [startTest, putFrame_ledger, setMlu_ledger _ _ (by rfl), setRecord_ledger]

@[simp] theorem hostFault_ledger (r : FaultReason) : (s.hostFault r).ledger = s.ledger := by
  unfold hostFault
  dsimp only
  split_ifs <;> simp

@[simp] theorem stopped_ledger (b : Bool) : (s.stopped b).ledger = s.ledger := by
  simp only [ledger, stopped, mlu, perPort_get]
  rfl

/-- Equal ledgers owe the same. -/
theorem ledger_owed {s t : State} (e : t.ledger = s.ledger) (q : Port) :
    (t.mlu q).owed = (s.mlu q).owed := congrArg (fun l => l.owed q) e

end State

/-! ### The Meter Line Unit keeps its Owed Frame -/

section

variable (m : Mlu)

@[simp] theorem Mlu.beginNext_owed : m.beginNext.owed = m.owed := rfl
@[simp] theorem Mlu.holdDue_owed : m.holdDue.owed = m.owed := rfl
@[simp] theorem Mlu.goDue_owed : m.goDue.owed = m.owed := by unfold Mlu.goDue; split <;> rfl
@[simp] theorem Mlu.join_owed (f : Frame) : (m.join f).owed = m.owed := by
  unfold Mlu.join; split <;> rfl
@[simp] theorem Mlu.takeOff_owed : m.takeOff.owed = m.owed := by
  unfold Mlu.takeOff
  split
  · exact Mlu.goDue_owed _
  · rfl
@[simp] theorem Mlu.obeys_owed (f : Flow) : (m.obeys f).owed = m.owed := by cases f <;> rfl

end

end Sys2Proof.Machine

/-! SUPPORT. Draws, compositions, closures and the pool-increase pass keep the books. -/

namespace Sys2Proof.Machine

open State

/-! ### The movements of the single updates -/

section

variable {s : State} {p : Port}

theorem moves_exchange {n : Nat} {f : PortFunds} (h : n + f.worth = s.ret.pool + (s.fundsOf p).worth) :
    MovesAt p s ((s.setPool n).setFunds p f) where
  worth := by simpa using h
  credited := rfl
  withdrawn := rfl
  surplus := rfl
  shortage := rfl
  stock := rfl
  funds := fun q hq => by simp [hq]
  runs := fun _ _ => rfl
  owed := fun _ _ => rfl

theorem moves_setFunds {f : PortFunds} (h : f.worth = (s.fundsOf p).worth) :
    MovesAt p s (s.setFunds p f) :=
  moves_exchange (n := s.ret.pool) (by rw [h])

theorem moves_setRun (r : Option Run) : MovesAt p s (s.setRun p r) where
  worth := rfl
  credited := rfl
  withdrawn := rfl
  surplus := rfl
  shortage := rfl
  stock := rfl
  funds := fun _ _ => rfl
  runs := fun q hq => by simp [hq]
  owed := fun _ _ => rfl

theorem moves_setQueue (l : List Port) : MovesAt p s (s.setQueue l) :=
  ⟨rfl, rfl, rfl, rfl, rfl, rfl, fun _ _ => rfl, fun _ _ => rfl, fun _ _ => rfl⟩

theorem moves_setMlu (m : Mlu) : MovesAt p s (s.setMlu p m) where
  worth := rfl
  credited := rfl
  withdrawn := rfl
  surplus := rfl
  shortage := rfl
  stock := rfl
  funds := fun _ _ => rfl
  runs := fun _ _ => rfl
  owed := fun q hq => by simp [hq]

end

/-! ### Draws and levels (R22 to R28) -/

namespace State.Books

variable {s : State} {p : Port}

/-- Value goes between the Credit Pool and a Port's Available, with at most its Headroom drawn, and the
levels, limits and spoiled figures of the Port may change beside it. -/
theorem exchange (h : s.Books) {n : Nat} {f : PortFunds}
    (hworth : n + f.worth = s.ret.pool + (s.fundsOf p).worth)
    (hres : f.reserved = (s.fundsOf p).reserved) (hused : f.usedValue = (s.fundsOf p).usedValue)
    (hpieces : f.usedPieces = (s.fundsOf p).usedPieces)
    (hsv : f.spoilValue ≤ (s.fundsOf p).spoilValue) (hsp : f.spoilPieces ≤ (s.fundsOf p).spoilPieces)
    (hav : f.available ≤ (s.fundsOf p).available + s.headroom p) :
    ((s.setPool n).setFunds p f).Books :=
  h.move_inPlace (moves_exchange hworth)
    ((h.ports p).of_funds rfl (by simpa) (by simpa) (by simpa) (by simpa) (by simpa) (by simpa))
    ((h.owed p).congr rfl rfl) rfl (waits_congr rfl)

/-- The figures of a Port that are no part of the balance may change freely, its spoiled ones downwards. -/
theorem setFunds (h : s.Books) {f : PortFunds} (hav : f.available = (s.fundsOf p).available)
    (hres : f.reserved = (s.fundsOf p).reserved) (hused : f.usedValue = (s.fundsOf p).usedValue)
    (hpieces : f.usedPieces = (s.fundsOf p).usedPieces)
    (hsv : f.spoilValue ≤ (s.fundsOf p).spoilValue)
    (hsp : f.spoilPieces ≤ (s.fundsOf p).spoilPieces) : (s.setFunds p f).Books :=
  h.exchange (n := s.ret.pool) (by simp only [PortFunds.worth, hav, hres, hused]) hres hused hpieces hsv hsp
    (by omega)

theorem setShort (h : s.Books) (b : Bool) : (s.setShort p b).Books :=
  h.setFunds rfl rfl rfl rfl le_rfl le_rfl

/-- A draw of no more than the Credit Pool holds and the Headroom admits (R21). -/
theorem draw (h : s.Books) {n : Nat} (hn : n ≤ s.ret.pool) (hh : n ≤ s.headroom p) :
    (s.draw p n).Books :=
  h.exchange (by simp only [PortFunds.worth]; omega) rfl rfl rfl le_rfl le_rfl (by simpa using hh)

theorem markShort (h : s.Books) (c : ShortCause) (n : Nat) : (s.markShort p c n).Books := by
  unfold State.markShort
  split_ifs
  · exact h
  · exact (h.setShort (p := p) true).of_ledger (by simp)

/-- The low-mark check draws the Want or the whole pool, and the Want is within the Headroom (R24). -/
theorem lowMarkCheck (h : s.Books) : (s.lowMarkCheck p).Books := by
  have hw : s.want p ≤ s.headroom p := Nat.min_le_right _ _
  unfold State.lowMarkCheck
  split_ifs with _ _ _ hp
  · exact h.setShort false
  · exact h
  · exact h.markShort .queued 0
  · exact (h.draw hp hw).setShort false
  · exact (h.draw le_rfl (by omega)).markShort .pool _

/-- A visit of step 2 of the pass draws at most the Want (R11). -/
theorem topUp (h : s.Books) : (s.topUp p).Books := by
  unfold State.topUp
  split_ifs
  · exact h.setShort false
  · exact (h.draw (Nat.min_le_left _ _) ((Nat.min_le_right _ _).trans (Nat.min_le_right _ _))).setShort _
  · exact h

end State.Books

section

variable (s : State) (p q : Port)

@[simp] theorem markShort_runOf (c : ShortCause) (n : Nat) : (s.markShort p c n).runOf q = s.runOf q := by
  unfold State.markShort; split_ifs <;> simp [State.setShort]

@[simp] theorem markShort_mlu (c : ShortCause) (n : Nat) : (s.markShort p c n).mlu q = s.mlu q := by
  unfold State.markShort; split_ifs <;> simp [State.setShort]

@[simp] theorem lowMarkCheck_runOf : (s.lowMarkCheck p).runOf q = s.runOf q := by
  unfold State.lowMarkCheck; split_ifs <;> simp [State.setShort, State.draw]

@[simp] theorem lowMarkCheck_mlu : (s.lowMarkCheck p).mlu q = s.mlu q := by
  unfold State.lowMarkCheck; split_ifs <;> simp [State.setShort, State.draw]

end

/-! ### The funds of a Port, by the state of its Run -/

/-- Funds with the amount `held` reserved, beside `n` granted pieces of the value `v` that are not yet
reported. -/
structure PortFunds.Holds (f : PortFunds) (held v n : Nat) : Prop where
  reserved : f.reserved = held
  holding : f.available + held + v ≤ Config.balanceMax
  usedMax : f.usedValue + held ≤ Config.lifetimeMax
  spoilValue : f.spoilValue + v ≤ f.usedValue
  spoilPieces : f.spoilPieces + n ≤ f.usedPieces

/-- The Reserved that a Port's Run calls for (R58). -/
def State.reservedFor (s : State) (p : Port) : Nat :=
  match s.runOf p with
  | some r => if r.state = .waiting then 0 else (r.pieces - r.granted) * r.charge
  | none => 0

section

variable {s : State} {p : Port} {r : Run}

theorem reservedFor_none (hr : s.runOf p = none) : s.reservedFor p = 0 := by
  simp only [reservedFor, hr]

theorem reservedFor_some (hr : s.runOf p = some r) :
    s.reservedFor p = if r.state = .waiting then 0 else (r.pieces - r.granted) * r.charge := by
  simp only [reservedFor, hr]

/-- The laws of a Port are the law of its Run and the law of its funds beside it. -/
theorem portSound_iff : s.PortSound p ↔
    (∀ r, s.runOf p = some r → r.Sound ∧
      (r.state = .waiting → (s.fundsOf p).usedValue + r.total ≤ Config.lifetimeMax)) ∧
      (s.fundsOf p).Holds (s.reservedFor p) (s.outstandingValue p) (s.outstandingPieces p) := by
  constructor
  · intro h
    have hres : (s.fundsOf p).reserved = s.reservedFor p := by
      cases hr : s.runOf p with
      | none => rw [reservedFor_none hr, h.idle hr]
      | some r =>
        rw [reservedFor_some hr]
        split_ifs with hw
        · exact (h.waiting r hr hw).1
        · exact h.held r hr hw
    exact ⟨fun r hr => ⟨h.sound r hr, fun hw => (h.waiting r hr hw).2⟩,
      hres, hres ▸ h.holding, hres ▸ h.usedMax, h.spoilValue, h.spoilPieces⟩
  · rintro ⟨hrun, hres, hhold, hmax, hsv, hsp⟩
    refine ⟨fun r hr => (hrun r hr).1, fun hr => ?_, fun r hr hw => ⟨?_, (hrun r hr).2 hw⟩,
      fun r hr hw => ?_, ?_, ?_, hsv, hsp⟩
    · rw [hres, reservedFor_none hr]
    · rw [hres, reservedFor_some hr, if_pos hw]
    · rw [hres, reservedFor_some hr, if_neg hw]
    · rw [holding, hres]
      exact hhold
    · rw [hres]
      exact hmax

/-- A Port with no Run. -/
theorem portSound_none (hr : s.runOf p = none) : s.PortSound p ↔ (s.fundsOf p).Holds 0 0 0 := by
  simp [portSound_iff, reservedFor, outstandingValue, outstandingPieces, hr]

/-- A Port whose Run is WAITING: nothing is reserved for it yet. -/
theorem portSound_waiting (hr : s.runOf p = some r) (hw : r.state = .waiting) : s.PortSound p ↔
    (r.Sound ∧ (s.fundsOf p).usedValue + r.total ≤ Config.lifetimeMax) ∧
      (s.fundsOf p).Holds 0 0 0 := by
  simp [portSound_iff, reservedFor, outstandingValue, outstandingPieces, hr, hw]

/-- A Port whose Run is ACTIVE or CANCELLING (R58). -/
theorem portSound_held (hr : s.runOf p = some r) (hw : r.state ≠ .waiting) : s.PortSound p ↔
    r.Sound ∧ (s.fundsOf p).Holds ((r.pieces - r.granted) * r.charge) (r.outstanding * r.charge)
      r.outstanding := by
  simp [portSound_iff, reservedFor, outstandingValue, outstandingPieces, hr, hw]

/-- Beside a WAITING Run no frame is owed. -/
theorem State.OwedSound.owed_of_waiting (h : s.OwedSound p) (hr : s.runOf p = some r)
    (hw : r.state = .waiting) : (s.mlu p).owed = none := by
  unfold State.OwedSound at h
  rw [hr] at h
  cases ho : (s.mlu p).owed with
  | none => rfl
  | some f =>
    rw [ho] at h
    cases f <;> simp_all

theorem State.OwedSound.of_none (h : (s.mlu p).owed = none) : s.OwedSound p := by
  unfold State.OwedSound
  rw [h]
  trivial

end

end Sys2Proof.Machine

/-! SUPPORT. The composition of frames, the closure of Runs and the pool-increase pass keep the books. -/

namespace Sys2Proof.Machine

open State

/-! ### Composing a frame (R65, R67, R68, R141) -/

/-- A frame sent unasked is composed at once only with none owed (R141). -/
theorem owed_of_mayCompose {m : Mlu} (h : (m.slots.hasFree && m.owed.isNone) = true) : m.owed = none := by
  rw [Bool.and_eq_true] at h
  exact Option.isNone_iff_eq_none.1 h.2

/-- A Port's Run may be granted `b` more pieces. -/
def State.Grantable (s : State) (p : Port) (b : Nat) : Prop :=
  ∃ r, s.runOf p = some r ∧ r.state ≠ .waiting ∧ r.granted + b ≤ r.pieces ∧ r.outstanding + b ≤ r.block

/-- A frame may be composed for a Port: one that touches the Run finds none owed, and the Grant Block it
carries, if any, may be granted. -/
def State.Composable (s : State) (p : Port) : MeterFrame → Prop
  | .runok _ _ _ b => (s.mlu p).owed = none ∧ s.Grantable p b
  | .grant _ b => (s.mlu p).owed = none ∧ s.Grantable p b
  | .halt _ => (s.mlu p).owed = none
  | _ => True

/-- A frame may stand as the Owed Frame of a Port beside its Run. -/
def State.Owable (s : State) (p : Port) (f : MeterFrame) : Prop :=
  (s.setMlu p { s.mlu p with owed := some f }).OwedSound p

section

variable {s : State} {p : Port} {r : Run}

/-- An owed RUNOK grants the first block of its Run. -/
theorem State.Owable.composable {f : MeterFrame} (h : s.Owable p f) (hp : s.PortSound p)
    (ho : (s.mlu p).owed = none) : s.Composable p f := by
  cases f with
  | runok id edition charge b =>
    unfold Owable OwedSound at h
    simp only [setMlu_mlu, if_true, setMlu_runOf] at h
    cases hr : s.runOf p with
    | none => simp [hr] at h
    | some r =>
      simp only [hr] at h
      obtain ⟨hs, hg, -, -, -, hb⟩ := h
      refine ⟨ho, r, hr, by simp [hs], ?_, ?_⟩
      · rw [hg, hb]
        omega
      · have := (hp.sound r hr).printed
        simp only [Run.outstanding, hb, hg]
        omega
  | grant id b =>
    unfold Owable OwedSound at h
    simp only [setMlu_mlu, if_true, setMlu_runOf] at h
  | halt id => exact ho
  | accept | refuse | badreq | wait | ack | norun | runend | echo => trivial

/-- More pieces granted keep the law of a Run (R67). -/
theorem Run.Sound.grant (h : r.Sound) {b : Nat} (hw : r.state ≠ .waiting) (hp : r.granted + b ≤ r.pieces)
    (hb : r.outstanding + b ≤ r.block) : ({ r with granted := r.granted + b } : Run).Sound where
  charge := h.charge
  total := h.total
  totalMax := h.totalMax
  granted := hp
  printed := Nat.le_add_right_of_le h.printed
  block := by
    have := h.printed
    simp only [Run.outstanding] at *
    omega
  spoiled := h.spoiled
  waiting := fun e => absurd e hw
  cancel := h.cancel

/-- The deadlines of a Run are no part of its law. -/
theorem Run.Sound.timed (h : r.Sound) (w d : Option Nat) :
    ({ r with waitDeadline := w, silenceDeadline := d } : Run).Sound :=
  ⟨h.charge, h.total, h.totalMax, h.granted, h.printed, h.block, h.spoiled, h.waiting, h.cancel⟩

end

namespace State.Books

variable {s : State} {p : Port}

/-- The Run of a Port and its funds replaced together, with no frame owed and the Run waiting neither
before nor after. -/
theorem replace (h : s.Books) {r r' : Run} {f : PortFunds} (hr : s.runOf p = some r)
    (hw : r.state ≠ .waiting) (hw' : r'.state ≠ .waiting) (ho : (s.mlu p).owed = none)
    (hworth : f.worth = (s.fundsOf p).worth) (hs : r'.Sound)
    (hf : f.Holds ((r'.pieces - r'.granted) * r'.charge) (r'.outstanding * r'.charge) r'.outstanding) :
    ((s.setRun p (some r')).setFunds p f).Books := by
  refine h.move_inPlace ((moves_setRun _).trans (moves_setFunds hworth)) ?_ (.of_none ho) rfl ?_
  · exact (portSound_held (r := r') (by simp) hw').2 ⟨hs, by simpa using hf⟩
  · simp [Waits, hr, hw, hw']

/-- The debit of a Grant Block moves its value from Reserved to Used Value (R67). -/
theorem debit (h : s.Books) {b : Nat} (ho : (s.mlu p).owed = none) (hg : s.Grantable p b) :
    (s.debit p b).Books := by
  obtain ⟨r, hr, hw, hp, hb⟩ := hg
  obtain ⟨hs, hf⟩ := (portSound_held hr hw).1 (h.ports p)
  have hprinted := hs.printed
  have hle : b * r.charge ≤ (r.pieces - r.granted) * r.charge := Nat.mul_le_mul_right _ (by omega)
  have hrest : (r.pieces - (r.granted + b)) * r.charge = (r.pieces - r.granted) * r.charge - b * r.charge := by
    rw [← Nat.sub_mul, Nat.sub_sub]
  have hout : (r.granted + b - r.printed) = r.outstanding + b := by
    simp only [Run.outstanding]
    omega
  obtain ⟨hres, hhold, hmax, hsv, hsp⟩ := hf
  unfold State.debit
  rw [hr]
  refine h.replace hr hw hw ho ?_ (hs.grant hw hp hb) ?_
  · simp only [PortFunds.worth, hres]
    omega
  · simp only [Run.outstanding, hout, hrest, Nat.add_mul] at *
    constructor <;> simp only [hres] <;> omega

/-- A restarted silence timer is no part of the accounts (R68). -/
theorem restartSilence (h : s.Books) (ho : (s.mlu p).owed = none) : (s.restartSilence p).Books := by
  unfold State.restartSilence
  split
  · rename_i r hr
    refine h.move_inPlace (moves_setRun _) ?_ (.of_none ho) rfl (by simp [Waits, hr])
    by_cases hw : r.state = .waiting
    · obtain ⟨⟨hs, hmax⟩, hf⟩ := (portSound_waiting hr hw).1 (h.ports p)
      exact (portSound_waiting (r := { r with silenceDeadline := some (s.fundsOf p).silenceLimit }) (by simp) hw).2
        ⟨⟨hs.timed _ _, hmax⟩, hf⟩
    · obtain ⟨hs, hf⟩ := (portSound_held hr hw).1 (h.ports p)
      exact (portSound_held (r := { r with silenceDeadline := some (s.fundsOf p).silenceLimit }) (by simp) hw).2
        ⟨hs.timed _ _, hf⟩
  · exact h

end State.Books

@[simp] theorem putFrame_owed (s : State) (p : Port) (f : MeterFrame) (q : Port) :
    ((s.putFrame p f).mlu q).owed = (s.mlu q).owed := ledger_owed (putFrame_ledger s p f) q

@[simp] theorem debit_mlu (s : State) (p : Port) (b : Nat) (q : Port) :
    (s.debit p b).mlu q = s.mlu q := by
  unfold State.debit; split <;> simp

@[simp] theorem restartSilence_mlu (s : State) (p q : Port) : (s.restartSilence p).mlu q = s.mlu q := by
  unfold State.restartSilence; split <;> simp

namespace State.Books

variable {s : State} {p : Port}

/-- Composing a frame, with the debit of its Grant Block and the silence timer (R67, R68). -/
theorem compose (h : s.Books) {f : MeterFrame} (hc : s.Composable p f) : (s.compose p f).Books := by
  have hput : ∀ g, (s.putFrame p g).Books := fun g => h.of_ledger (putFrame_ledger s p g)
  have hdebit : ∀ g b, (s.mlu p).owed = none ∧ s.Grantable p b →
      (((s.putFrame p g).debit p b).restartSilence p).Books := fun g b ⟨ho, hb⟩ =>
    ((hput g).debit (by simpa using ho) hb).restartSilence (by simpa using ho)
  cases f with
  | runok id edition charge b => exact hdebit _ b hc
  | grant id b => exact hdebit _ b hc
  | halt id => exact (hput _).restartSilence ((putFrame_owed s p _ p).trans hc)
  | accept | refuse | badreq | wait | ack | norun | runend | echo => exact hput _

/-- A frame that may be owed is sent unasked: composed, or owed (R141, R81). -/
theorem sendUnasked (h : s.Books) {f : MeterFrame} (hf : s.Owable p f) : (s.sendUnasked p f).Books := by
  unfold State.sendUnasked
  split_ifs with hfree
  · exact h.compose (hf.composable (h.ports p) (owed_of_mayCompose hfree))
  · exact h.move_inPlace (moves_setMlu _) ((h.ports p).congr rfl rfl) hf rfl (waits_congr rfl)

/-- A Meter Line Unit that owes nothing may be stored (R134). -/
theorem setMlu_clear (h : s.Books) {m : Mlu} (hm : m.owed = none) : (s.setMlu p m).Books :=
  h.move_inPlace (moves_setMlu _) ((h.ports p).congr rfl rfl) (.of_none (by simpa using hm)) rfl
    (waits_congr rfl)

/-- The Owed Frame is composed into a free slot (R141, step 1). -/
theorem composeOwed (h : s.Books) : (s.composeOwed p).Books := by
  unfold State.composeOwed
  split
  · rename_i f hf
    split_ifs
    · have hclear : (s.setMlu p { s.mlu p with owed := none }).Books := h.setMlu_clear rfl
      have howable : (s.setMlu p { s.mlu p with owed := none }).Owable p f :=
        (h.owed p).congr (by simp [hf]) rfl
      exact hclear.compose (howable.composable (hclear.ports p) (by simp))
    · exact h
  · exact h

end State.Books

/-! ### Closures (R59) -/

section

variable (s : State) (p : Port) (r : Run) (reason : RunReason)

theorem moves_returnReserved : MovesAt p s (s.returnReserved p) :=
  moves_setFunds (by simp only [PortFunds.worth]; omega)

theorem moves_removeRun : MovesAt p s (s.removeRun p) := (moves_setRun none).trans (moves_setQueue _)

theorem moves_closeSilently : MovesAt p s (s.closeSilently p r reason) :=
  ((moves_returnReserved s p).trans (moves_removeRun _ p)).trans (.of_ledger (by simp [closeSilently]))

/-- An unasked RUNEND leaves the retained contents alone. -/
theorem sendUnasked_runend_ret : (s.sendUnasked p (runendFrame r reason)).ret = s.ret := by
  unfold State.sendUnasked
  split_ifs <;> rfl

/-- After an unasked RUNEND nothing is owed, or that RUNEND is. -/
theorem sendUnasked_runend_owed : ((s.sendUnasked p (runendFrame r reason)).mlu p).owed = none ∨
    ((s.sendUnasked p (runendFrame r reason)).mlu p).owed = some (runendFrame r reason) := by
  unfold State.sendUnasked
  split_ifs with hfree
  · left
    simpa [State.compose, runendFrame] using owed_of_mayCompose hfree
  · right
    simp

theorem moves_sendUnasked_runend : MovesAt p s (s.sendUnasked p (runendFrame r reason)) := by
  unfold State.sendUnasked
  split_ifs
  · exact .of_ledger (putFrame_ledger s p _)
  · exact moves_setMlu _

theorem moves_closeUnasked : MovesAt p s (s.closeUnasked p r reason) :=
  (((moves_returnReserved s p).trans (moves_removeRun _ p)).trans
    (moves_sendUnasked_runend _ p r reason)).trans (.of_ledger (by simp [closeUnasked]))

theorem closeSilently_ret :
    (s.closeSilently p r reason).ret = ((s.returnReserved p).removeRun p).ret := by
  simp only [closeSilently, post_ret]

theorem closeUnasked_ret :
    (s.closeUnasked p r reason).ret = ((s.returnReserved p).removeRun p).ret := by
  simp only [closeUnasked, post_ret, sendUnasked_runend_ret]

@[simp] theorem closeSilently_mlu (q : Port) : (s.closeSilently p r reason).mlu q = s.mlu q := by
  simp [closeSilently, removeRun, returnReserved]

end

/-- How a closure leaves the retained contents, from funds that hold value in Reserved and in Outstanding:
the Run and its place in the queue are gone, and Reserved is returned (R59, steps 2 to 4). -/
theorem State.Books.closed {s u t : State} {p : Port} (h : s.Books) (m : MovesAt p s u)
    (hq : u.ret.queue = s.ret.queue) (k : MovesAt p u t)
    (ht : t.ret = ((u.returnReserved p).removeRun p).ret)
    (hf : (u.fundsOf p).available + (u.fundsOf p).reserved ≤ Config.balanceMax ∧
      (u.fundsOf p).usedValue ≤ Config.lifetimeMax ∧
      (u.fundsOf p).spoilValue ≤ (u.fundsOf p).usedValue ∧
      (u.fundsOf p).spoilPieces ≤ (u.fundsOf p).usedPieces)
    (ho : (t.mlu p).owed = none ∨ ∃ r reason, (t.mlu p).owed = some (runendFrame r reason)) :
    t.Books := by
  have hrun : t.runOf p = none := by
    rw [runOf, ht]
    simp [removeRun, get_set]
  have hfunds : t.fundsOf p = (u.returnReserved p).fundsOf p := by
    rw [fundsOf, ht]
    rfl
  have hqueue : t.ret.queue = s.ret.queue.filter (· ≠ p) := by
    rw [ht, ← hq]
    rfl
  have hmem : p ∈ t.ret.queue ↔ t.Waits p := by simp [hqueue, Waits, hrun]
  refine h.move (m.trans k) ((portSound_none hrun).2 ?_) ?_
    (h.queue.move (m.trans k) (by rw [hqueue]; exact h.queue.nodup.filter _) (fun q e => by simp [hqueue, e])
      hmem)
  · obtain ⟨hav, hused, hsv, hsp⟩ := hf
    rw [hfunds]
    simp only [returnReserved, setFunds_fundsOf, if_true]
    exact ⟨rfl, hav, hused, hsv, hsp⟩
  · unfold OwedSound
    rw [hrun]
    obtain ho | ⟨r, reason, ho⟩ := ho
    · rw [ho]
      trivial
    · rw [ho]
      trivial

namespace State.Books

variable {s : State} {p : Port}

/-- The funds of a Port as a closure needs them. -/
theorem closable (h : s.Books) : (s.fundsOf p).available + (s.fundsOf p).reserved ≤ Config.balanceMax ∧
    (s.fundsOf p).usedValue ≤ Config.lifetimeMax ∧
    (s.fundsOf p).spoilValue ≤ (s.fundsOf p).usedValue ∧
    (s.fundsOf p).spoilPieces ≤ (s.fundsOf p).usedPieces := by
  obtain ⟨-, hres, hhold, hmax, hsv, hsp⟩ := portSound_iff.1 (h.ports p)
  omega

theorem closeSilently (h : s.Books) (ho : (s.mlu p).owed = none) (r : Run) (reason : RunReason) :
    (s.closeSilently p r reason).Books :=
  h.closed (.of_ledger rfl) rfl (moves_closeSilently s p r reason) (closeSilently_ret s p r reason)
    h.closable (.inl (by simpa using ho))

theorem closeUnasked (h : s.Books) (r : Run) (reason : RunReason) :
    (s.closeUnasked p r reason).Books := by
  refine h.closed (.of_ledger rfl) rfl (moves_closeUnasked s p r reason) (closeUnasked_ret s p r reason)
    h.closable ?_
  simp only [State.closeUnasked, post_mlu]
  exact (sendUnasked_runend_owed _ p r reason).imp_right fun e => ⟨r, reason, e⟩

end State.Books

end Sys2Proof.Machine

/-! SUPPORT. Reservation, the pool-increase pass, admission and the reports of a meter keep the books. -/

namespace Sys2Proof.Machine

open State

/-! ### Reservation (R22, R23) -/

section

variable {s : State} {p : Port} {r : Run}

/-- The reservation draw covers what the Available lacks, within the pool and the Headroom (R22). -/
theorem reservationDraw_covers {total : Nat} (hv : s.outstandingValue p = 0)
    (hf : (s.fundsOf p).Holds 0 0 0) (ht : total ≤ Config.balanceMax)
    (hc : total ≤ (s.fundsOf p).available + s.ret.pool) :
    s.reservationDraw p total ≤ s.ret.pool ∧
      total ≤ (s.fundsOf p).available + s.reservationDraw p total ∧
      (s.fundsOf p).available + s.reservationDraw p total ≤ Config.balanceMax := by
  obtain ⟨hres, hhold, -, -, -⟩ := hf
  simp only [reservationDraw, headroom, holding, hv, hres]
  split_ifs <;> omega

/-- The funds of a Port after a reservation and its draw (R22, R23). -/
def State.reservedFunds (s : State) (p : Port) (total : Nat) : PortFunds :=
  { s.fundsOf p with
    available := (s.fundsOf p).available + s.reservationDraw p total - total
    reserved := (s.fundsOf p).reserved + total }

/-- A reservation is an exchange between the pool and the Port's funds. -/
theorem reserve_eq (total : Nat) : s.reserve p total =
    (s.setPool (s.ret.pool - s.reservationDraw p total)).setFunds p (s.reservedFunds p total) := by
  simp [reserve, draw, reservedFunds]

theorem reserve_fundsOf (total : Nat) : (s.reserve p total).fundsOf p = s.reservedFunds p total := by
  simp [reserve_eq]

@[simp] theorem reserve_runOf (total : Nat) (q : Port) : (s.reserve p total).runOf q = s.runOf q := rfl

@[simp] theorem reserve_mlu (total : Nat) (q : Port) : (s.reserve p total).mlu q = s.mlu q := rfl

@[simp] theorem reserve_queue (total : Nat) : (s.reserve p total).ret.queue = s.ret.queue := rfl

theorem moves_reserve {total : Nat} (hd : s.reservationDraw p total ≤ s.ret.pool)
    (ht : total ≤ (s.fundsOf p).available + s.reservationDraw p total) :
    MovesAt p s (s.reserve p total) := by
  rw [reserve_eq]
  refine moves_exchange ?_
  simp only [PortFunds.worth, reservedFunds]
  omega

/-- A Run newly ACTIVE with nothing granted, reserved on funds that held nothing for it; `l` is the queue
without it. -/
theorem State.Books.reserveRun (h : s.Books) {l : List Port} (ho : (s.mlu p).owed = none)
    (hf : (s.fundsOf p).Holds 0 0 0) (hs : r.Sound) (hactive : r.state = .active) (hg : r.granted = 0)
    (hu : (s.fundsOf p).usedValue + r.total ≤ Config.lifetimeMax)
    (hc : r.total ≤ (s.fundsOf p).available + s.ret.pool) (hnodup : l.Nodup) (hp : p ∉ l)
    (hl : ∀ q, q ≠ p → (q ∈ l ↔ q ∈ s.ret.queue)) :
    (((s.setQueue l).setRun p (some r)).reserve p r.total).Books := by
  have hr : (((s.setQueue l).setRun p (some r)).reserve p r.total).runOf p = some r := by
    simp
  have hw : r.state ≠ .waiting := by simp [hactive]
  have hout : r.outstanding = 0 := by simp [Run.outstanding, hg]
  obtain ⟨hd, ht, hmax⟩ := reservationDraw_covers (s := (s.setQueue l).setRun p (some r)) (p := p)
    (total := r.total) (by simp [outstandingValue, hout]) hf hs.totalMax hc
  have m : MovesAt p s (((s.setQueue l).setRun p (some r)).reserve p r.total) :=
    ((moves_setQueue l).trans (moves_setRun _)).trans (moves_reserve hd ht)
  refine h.move m ((portSound_held hr hw).2 ⟨hs, ?_⟩) (.of_none (by simpa using ho))
    (h.queue.move m (by simpa using hnodup) (by simpa using hl) ?_)
  · obtain ⟨hres, -, -, hsv, hsp⟩ := hf
    rw [reserve_fundsOf, hout, hg, Nat.sub_zero, Nat.zero_mul, Nat.mul_comm r.pieces, ← hs.total]
    simp only [reservedFunds, setRun_fundsOf, setQueue_fundsOf] at *
    refine ⟨?_, ?_, hu, hsv, hsp⟩
    · simp only [hres]
      omega
    · dsimp only
      omega
  · simp [Waits, hp, hw]

/-- A WAITING Run made ACTIVE keeps the law of a Run (R65). -/
theorem Run.Sound.activate (h : r.Sound) (hw : r.state = .waiting) (w d : Option Nat) :
    ({ r with state := .active, waitDeadline := w, silenceDeadline := d } : Run).Sound where
  charge := h.charge
  total := h.total
  totalMax := h.totalMax
  granted := h.granted
  printed := h.printed
  block := h.block
  spoiled := h.spoiled
  waiting := nofun
  cancel := by
    have := h.cancel
    rw [hw] at this
    simpa using this

/-- The RUNOK of an ACTIVE Run with nothing granted may be owed. -/
theorem owable_runok (hr : s.runOf p = some r) (ha : r.state = .active) (hg : r.granted = 0) :
    s.Owable p (.runok r.id r.edition r.charge (min r.block r.pieces)) := by
  unfold Owable OwedSound
  simp [hr, ha, hg]

end

/-! ### The pool-increase pass (R9 to R11) -/

section

variable {s : State} {p : Port} {r : Run}

/-- What serving a head reserves does not depend on the order in which the Run is stored. -/
theorem reserve_comm {l : List Port} {x : Option Run} {n : Nat}
    (h : ((s.setQueue l).setRun p x).outstandingValue p = s.outstandingValue p) :
    ((s.reserve p n).setQueue l).setRun p x = ((s.setQueue l).setRun p x).reserve p n := by
  have e : ((s.setQueue l).setRun p x).reservationDraw p n = s.reservationDraw p n := by
    simp only [reservationDraw, headroom, holding, h]
    rfl
  rw [reserve_eq, reserve_eq, reservedFunds, reservedFunds, e]
  rfl

/-- Serving the head of the queue keeps the books (R10, R65). -/
theorem State.Books.serveHead (h : s.Books) (hq : s.ret.queue.head? = some p) (hr : s.runOf p = some r)
    (hc : r.total ≤ (s.fundsOf p).available + s.ret.pool) : (s.serveHead p r).Books := by
  obtain ⟨rest, hrest⟩ := List.head?_eq_some_iff.1 hq
  have hw : r.state = .waiting := by
    obtain ⟨r', hr', hw⟩ := h.queue.mem_iff.1 (show p ∈ s.ret.queue by simp [hrest])
    rw [hr] at hr'
    cases hr'
    exact hw
  obtain ⟨⟨hs, hu⟩, hf⟩ := (portSound_waiting hr hw).1 (h.ports p)
  have ho := (h.owed p).owed_of_waiting hr hw
  have hnodup := hrest ▸ h.queue.nodup
  obtain ⟨hp, hnodup⟩ := List.nodup_cons.1 hnodup
  have hg := hs.waiting hw
  have key := h.reserveRun (l := s.ret.queue.drop 1) ho hf
    (hs.activate hw none (some (s.fundsOf p).silenceLimit)) rfl hg hu hc (by simpa [hrest] using hnodup)
    (by simpa [hrest] using hp) (fun q e => by simp [hrest, e])
  rw [← reserve_comm (by simp [outstandingValue, Run.outstanding, hr, hw, hg])] at key
  exact key.lowMarkCheck.sendUnasked (owable_runok (r := { r with
    state := .active, waitDeadline := none, silenceDeadline := some (s.fundsOf p).silenceLimit })
    (by simp) rfl hg)

theorem State.Books.pass (h : s.Books) : s.pass.Books :=
  pass_keeps s (fun _ _ _ ht hq hr hc => ht.serveHead hq hr hc) (fun _ _ _ ht => ht.topUp) h

end

end Sys2Proof.Machine

/-! SUPPORT. What a record of a meter leaves: sound books, and an answer that may be composed (R60 to R72,
R105, R141). -/

namespace Sys2Proof.Machine

open State

/-- What the block of a record answers: the books are sound, and its answer may be composed (R105). -/
structure AnswerSound (p : Port) (x : State × MeterFrame) : Prop where
  books : x.1.Books
  composable : x.1.Composable p x.2

/-! ### Admission (R60 to R63) -/

/-- A computed charge is at least 1, and the total is the charge of all pieces within a balance (R51). -/
theorem computeCharge_eq_ok {t : RateTable} {c w n : Nat} {letters : Option (List Letter)}
    {r : ChargeResult} (h : computeCharge t c w letters n = .ok r) :
    1 ≤ r.charge ∧ r.total = r.charge * n ∧ r.total ≤ Config.balanceMax := by
  unfold computeCharge at h
  obtain ⟨band, -, h⟩ := (bind_eq_ok _ _ _).1 h
  dsimp only at h
  split at h
  · cases h
  · split_ifs at h with hzero hmax
    cases h
    exact ⟨Nat.one_le_iff_ne_zero.2 hzero, rfl, Nat.le_of_not_lt hmax⟩

/-- A priced Run: its charge and total, and room for the total in Used Value (R62, orders 7 to 12). -/
theorem priceRun_eq_ok {s : State} {p : Port} {profile : Profile} {c w n : Nat} {letters : Text}
    {r : ChargeResult} (h : priceRun s p profile c w letters n = .ok r) :
    (1 ≤ r.charge ∧ r.total = r.charge * n ∧ r.total ≤ Config.balanceMax) ∧
      (s.fundsOf p).usedValue + r.total ≤ Config.lifetimeMax := by
  unfold priceRun at h
  obtain ⟨_, -, h⟩ := (bind_eq_ok _ _ _).1 h
  obtain ⟨_, -, h⟩ := (bind_eq_ok _ _ _).1 h
  split at h
  · cases h
  · rename_i r' hr'
    obtain ⟨_, -, h⟩ := (bind_eq_ok _ _ _).1 h
    obtain ⟨_, hfull, h⟩ := (bind_eq_ok _ _ _).1 h
    cases h
    exact ⟨computeCharge_eq_ok hr', Nat.le_of_not_lt ((refuseIf_eq_ok _ _ _).1 hfull)⟩

theorem newRun_sound {id n : Nat} {profile : Profile} {r : ChargeResult}
    (h : 1 ≤ r.charge ∧ r.total = r.charge * n ∧ r.total ≤ Config.balanceMax) :
    (newRun id profile r n).Sound where
  charge := h.1
  total := h.2.1
  totalMax := h.2.2
  granted := Nat.zero_le _
  printed := le_rfl
  block := Nat.zero_le _
  spoiled := le_rfl
  waiting := fun _ => rfl
  cancel := by simp [newRun]

section

variable {s : State} {p : Port} {r : Run}

/-- A Run that can be reserved is covered by the Available and the pool (R22). -/
theorem covered_of_canReserve {total : Nat} (h : s.canReserve p total = true) :
    total ≤ (s.fundsOf p).available + s.ret.pool := by
  simp only [canReserve, Bool.or_eq_true, Bool.and_eq_true, decide_eq_true_eq] at h
  omega

theorem State.Books.admitActive (h : s.Books) (ho : (s.mlu p).owed = none) (hr : s.runOf p = none)
    (hs : r.Sound) (hw : r.state = .waiting)
    (hu : (s.fundsOf p).usedValue + r.total ≤ Config.lifetimeMax)
    (hc : r.total ≤ (s.fundsOf p).available + s.ret.pool) : AnswerSound p (s.admitActive p r) := by
  have h' : (s.setRunId p r.id).Books := h.of_ledger (by simp)
  have hp := h.queue.not_mem hr
  have key := (h'.reserveRun (p := p) (l := s.ret.queue) ho ((portSound_none hr).1 (h.ports p))
    (hs.activate hw r.waitDeadline (some (s.fundsOf p).silenceLimit)) rfl (hs.waiting hw) hu hc
    h.queue.nodup hp (fun _ _ => Iff.rfl)).lowMarkCheck (p := p)
  refine ⟨key, (owable_runok (r := { r with
    state := .active, silenceDeadline := some (s.fundsOf p).silenceLimit }) ?_ rfl
    (hs.waiting hw)).composable (key.ports p) ?_⟩
  · simp [State.admitActive]
  · simpa [State.admitActive] using ho

theorem State.Books.admitWaiting (h : s.Books) (ho : (s.mlu p).owed = none) (hr : s.runOf p = none)
    (hs : r.Sound) (hw : r.state = .waiting)
    (hu : (s.fundsOf p).usedValue + r.total ≤ Config.lifetimeMax) :
    AnswerSound p (s.admitWaiting p r) := by
  have hnew : ({ r with waitDeadline := some (s.fundsOf p).waitLimit } : Run).Sound :=
    hs.timed _ _
  have hp := h.queue.not_mem hr
  have m : MovesAt p s (s.admitWaiting p r).1 :=
    ((MovesAt.of_ledger (setRunId_ledger s p r.id)).trans (moves_setRun _)).trans
      ((moves_setQueue _).trans (.of_ledger (by rw [State.admitWaiting, post_ledger])))
  have hrun : (s.admitWaiting p r).1.runOf p =
      some { r with waitDeadline := some (s.fundsOf p).waitLimit } := by simp [State.admitWaiting]
  have hfunds : (s.admitWaiting p r).1.fundsOf p = s.fundsOf p := by simp [State.admitWaiting]
  have hqueue : (s.admitWaiting p r).1.ret.queue = s.ret.queue ++ [p] := by simp [State.admitWaiting]
  refine ⟨h.move m ((portSound_waiting hrun hw).2 ?_) (.of_none ?_) (h.queue.move m ?_ ?_ ?_), trivial⟩
  · rw [hfunds]
    exact ⟨⟨hnew, hu⟩, (portSound_none hr).1 (h.ports p)⟩
  · simpa [State.admitWaiting] using ho
  · rw [hqueue, ← List.concat_eq_append]
    exact h.queue.nodup.concat hp
  · intro q e
    simp [hqueue, e]
  · simp [hqueue, Waits, hrun, hw]

theorem State.Books.admitRun (h : s.Books) (ho : (s.mlu p).owed = none) (profile : Profile) (c w : Nat)
    (letters : Text) (n : Nat) : AnswerSound p (s.admitRun p profile c w letters n) := by
  unfold State.admitRun
  split_ifs with hbusy
  · exact ⟨h, trivial⟩
  · have hr : s.runOf p = none := by simpa using hbusy
    split
    · exact ⟨h, trivial⟩
    · rename_i result hprice
      obtain ⟨hsound, hu⟩ := priceRun_eq_ok hprice
      dsimp only
      split_ifs with hres
      · exact h.admitActive ho hr (newRun_sound hsound) rfl hu (covered_of_canReserve hres)
      · exact h.admitWaiting ho hr (newRun_sound hsound) rfl hu

/-- A RUN taken (R60 to R63). -/
theorem State.Books.takeRun (h : s.Books) (ho : (s.mlu p).owed = none) (fs : List Text) :
    AnswerSound p (takeRun p fs s) := by
  unfold Machine.takeRun
  split
  · exact ⟨h, trivial⟩
  · split_ifs
    · exact ⟨h, trivial⟩
    · exact ⟨h, trivial⟩
    · have h' : (s.giveBasic p).Books := h.of_ledger (giveBasic_ledger s p)
      dsimp only
      split
      · exact ⟨h', trivial⟩
      · exact h'.admitRun ((ledger_owed (giveBasic_ledger s p) p).trans ho) _ _ _ _ _

end

/-! ### Reports (R69 to R72, R76) -/

section

variable {s : State} {p : Port} {r : Run}

/-- What a report takes off the Outstanding pieces of a Run (R70). -/
theorem Run.counted_outstanding (a b : Nat) :
    (r.counted a b).outstanding = r.outstanding - min a r.outstanding := by
  simp only [Run.outstanding, Run.counted]
  omega

/-- The counts of a report keep the law of a Run (R70). -/
theorem Run.Sound.counted (h : r.Sound) (a b : Nat) : (r.counted a b).Sound where
  charge := h.charge
  total := h.total
  totalMax := h.totalMax
  granted := h.granted
  printed := by
    have := h.printed
    simp only [Run.counted, Run.outstanding]
    omega
  block := by
    rw [Run.counted_outstanding]
    exact (Nat.sub_le _ _).trans h.block
  spoiled := by
    have := h.spoiled
    simp only [Run.counted]
    omega
  waiting := h.waiting
  cancel := h.cancel

/-- The counts of an accepted report: spoiled pieces and their value pass from what is outstanding to the
spoiled figures, at most as many as are printed (R70). -/
theorem State.Books.countReport (h : s.Books) (ho : (s.mlu p).owed = none) (hr : s.runOf p = some r)
    (hw : r.state ≠ .waiting) (a b : Nat) : (s.countReport p r a b).Books := by
  obtain ⟨hs, hf⟩ := (portSound_held hr hw).1 (h.ports p)
  obtain ⟨hres, hhold, hmax, hsv, hsp⟩ := hf
  have hle : min b (min a r.outstanding) * r.charge ≤ min a r.outstanding * r.charge :=
    Nat.mul_le_mul_right _ (Nat.min_le_right _ _)
  have hout : min a r.outstanding * r.charge ≤ r.outstanding * r.charge :=
    Nat.mul_le_mul_right _ (Nat.min_le_right _ _)
  refine (h.replace (r' := r.counted a b) (f := { s.fundsOf p with
      spoilPieces := (s.fundsOf p).spoilPieces + min b (min a r.outstanding)
      spoilValue := (s.fundsOf p).spoilValue + min b (min a r.outstanding) * r.charge })
    hr hw hw ho rfl (hs.counted a b) ?_).of_ledger (by simp [State.countReport])
  rw [Run.counted_outstanding]
  refine ⟨hres, ?_, hmax, ?_, ?_⟩ <;>
    simp only [Run.counted, Nat.sub_mul] at * <;> omega

theorem restartSilence_runOf (hr : s.runOf p = some r) : (s.restartSilence p).runOf p =
    some { r with silenceDeadline := some (s.fundsOf p).silenceLimit } := by
  simp [State.restartSilence, hr]

/-- The answer of an accepted DONE: a further block where nothing is outstanding, or a closure (R69, R76). -/
theorem State.Books.answerDone (h : s.Books) (ho : (s.mlu p).owed = none) (hr : s.runOf p = some r)
    (hw : r.state ≠ .waiting) : AnswerSound p (s.answerDone p r) := by
  unfold State.answerDone
  split_ifs with _ hout hmore
  · exact ⟨h, trivial⟩
  · refine ⟨h, ho, r, hr, hw, ?_, ?_⟩ <;> omega
  · exact ⟨h.closeSilently ho _ _, trivial⟩
  · exact ⟨h.closeSilently ho _ _, trivial⟩
  · exact ⟨h, trivial⟩
  · exact ⟨h.closeSilently ho _ _, trivial⟩

/-- A DONE taken (R60, R69, R70). -/
theorem State.Books.takeDone (h : s.Books) (ho : (s.mlu p).owed = none) (fs : List Text) :
    AnswerSound p (takeDone p fs s) := by
  unfold Machine.takeDone
  split
  · exact ⟨h, trivial⟩
  · split
    · exact ⟨h, trivial⟩
    · rename_i id a b _ _ r hr
      split_ifs with hid
      · exact ⟨h, trivial⟩
      · obtain ⟨-, hw⟩ := not_or.1 hid
        have ho' : ((s.countReport p r a b).mlu p).owed = none := by simpa [State.countReport] using ho
        have h' := (h.countReport ho hr hw a b).restartSilence ho'
        have hr' : ((s.countReport p r a b).restartSilence p).runOf p = some { r.counted a b with
            silenceDeadline := some (s.fundsOf p).silenceLimit } := by
          rw [restartSilence_runOf (r := r.counted a b) (by simp [State.countReport])]
          simp [State.countReport]
        exact h'.answerDone (by simpa using ho') hr' hw

/-- A STOP of a Run with its counts taken: the value of its unprinted pieces returns, and it is closed
(R71). -/
theorem State.Books.returnAndClose (h : s.Books) (ho : (s.mlu p).owed = none) (hr : s.runOf p = some r)
    (hw : r.state ≠ .waiting) (final : Run) (reason : RunReason) :
    ((s.returnUnprinted p r).closeSilently p final reason).Books := by
  obtain ⟨hs, hf⟩ := (portSound_held hr hw).1 (h.ports p)
  obtain ⟨hres, hhold, hmax, hsv, hsp⟩ := hf
  have m : MovesAt p s (s.returnUnprinted p r) := moves_setFunds (by
    simp only [PortFunds.worth]
    omega)
  refine h.closed m rfl (moves_closeSilently _ p final reason) (closeSilently_ret _ p final reason) ?_
    (.inl (by simpa [returnUnprinted] using ho))
  simp only [returnUnprinted, setFunds_fundsOf, if_true, hres]
  refine ⟨?_, ?_, ?_, ?_⟩ <;> omega

/-- A STOP taken (R60, R71, R72). -/
theorem State.Books.takeStop (h : s.Books) (ho : (s.mlu p).owed = none) (fs : List Text) :
    AnswerSound p (takeStop p fs s) := by
  unfold Machine.takeStop
  split
  · exact ⟨h, trivial⟩
  · split
    · exact ⟨h, trivial⟩
    · rename_i id a b _ _ r hr
      split
      · exact ⟨h, trivial⟩
      split
      · have h' : ∀ c, (s.latchIf c p .countMismatch).Books := fun c => h.of_ledger (by simp)
        exact ⟨((h' _).closeSilently (by simpa using ho) r .stopped).pass, trivial⟩
      · rename_i hw
        have ho' : ((s.countReport p r a b).mlu p).owed = none := by simpa [State.countReport] using ho
        have hr' : (s.countReport p r a b).runOf p = some (r.counted a b) := by
          simp [State.countReport]
        dsimp only
        exact ⟨(h.countReport ho hr hw a b).returnAndClose ho' hr' hw _ _, trivial⟩

theorem State.Books.takeAnnounce (h : s.Books) (fs : List Text) : AnswerSound p (takeAnnounce p fs s) := by
  unfold Machine.takeAnnounce
  split
  · exact ⟨h, trivial⟩
  · split_ifs
    · exact ⟨h, trivial⟩
    · exact ⟨h, trivial⟩
    · exact ⟨h, trivial⟩
    · refine ⟨h.of_ledger (attach_ledger s p _), ?_⟩
      unfold State.attach
      dsimp only
      split_ifs <;> trivial

/-- A record goes to its block (R105). -/
theorem State.Books.route (h : s.Books) (ho : (s.mlu p).owed = none) (f : Frame) :
    AnswerSound p (route p f s) := by
  unfold Machine.route
  split_ifs
  · exact h.takeAnnounce _
  · exact ⟨h, trivial⟩
  · exact h.takeRun ho _
  · exact ⟨h, trivial⟩
  · exact h.takeDone ho _
  · exact ⟨h, trivial⟩
  · exact h.takeStop ho _
  · exact ⟨h, trivial⟩

end

/-! ### The use of a free slot (R137, R141) -/

namespace State.Books

variable {s : State} {p : Port}

theorem takeHead (h : s.Books) : (s.takeHead p).Books := by
  unfold State.takeHead
  split
  · rename_i f _ _
    split_ifs with hfree
    · have ho : (s.mlu p).owed = none := by simp_all
      have h' : (s.setMlu p (s.mlu p).takeOff).Books := h.of_ledger (setMlu_ledger s p (by simp))
      obtain ⟨hbooks, hcomposable⟩ := h'.route (p := p) (by simpa using ho) f
      exact hbooks.compose hcomposable
    · exact h
  · exact h

theorem useSlot (h : s.Books) : (s.useSlot p).Books := h.composeOwed.takeHead.takeHead

theorem frameArrives (h : s.Books) (f : Frame) : (s.frameArrives p f).Books := by
  have hjoin : (s.setMlu p ((s.mlu p).join f)).Books := h.of_ledger (setMlu_ledger s p (by simp))
  unfold State.frameArrives
  dsimp only
  split_ifs
  · exact hjoin.useSlot
  · exact hjoin
  · exact h.of_ledger (by simp)
  · exact h

theorem frameEnds (h : s.Books) (t : Termination) : (s.frameEnds p t).Books := by
  unfold State.frameEnds
  split_ifs <;> cases t
  · exact h.of_ledger (endTest_ledger s p _)
  · exact h.of_ledger (endTest_ledger s p _)
  · exact h.frameArrives _
  · exact h.of_ledger (latchLineError_ledger s p _)

theorem meterReceives (h : s.Books) (step : Receiver → Receiver × Option Termination) :
    (s.meterReceives p step).Books := by
  have hrx : (s.setMlu p { s.mlu p with rx := (step (s.mlu p).rx).1 }).Books :=
    h.of_ledger (setMlu_ledger s p rfl)
  unfold State.meterReceives
  dsimp only
  split_ifs
  · split
    · exact hrx.frameEnds _
    · exact hrx
  · exact h

end State.Books

end Sys2Proof.Machine

/-! SUPPORT. The events of the meter lines and of the Run timers keep the books, and so do stopping and
starting (chapters 6, 7 and 10). -/

namespace Sys2Proof.Machine

open State

/-! ### Line events at a Port (R117 to R120, R133, R134) -/

namespace State.Books

variable {s : State} {p : Port}

theorem closeAtLine (h : s.Books) (ho : (s.mlu p).owed = none) (reason : RunReason) :
    (s.closeAtLine p reason).Books := by
  unfold State.closeAtLine
  split
  · split_ifs
    · exact (h.closeSilently ho _ reason).pass
    · exact h.closeSilently ho _ reason
  · exact h

theorem detectBreak (h : s.Books) : (s.detectBreak p).Books := h.of_ledger (detectBreak_ledger s p)

theorem takeMeterReset (h : s.Books) (cause : ResetCause) : (s.takeMeterReset p cause).Books := by
  have hclear : (((s.detectBreak p).setMlu p ((s.detectBreak p).mlu p).discard).leaveReady p
      .unannounced).Books :=
    ((h.detectBreak (p := p)).setMlu_clear rfl).of_ledger (leaveReady_ledger _ p _)
  have hclosed := hclear.closeAtLine (p := p) (by simp [leaveReady, Mlu.discard]) .meterreset
  exact hclosed.of_ledger (by simp [State.takeMeterReset])

theorem takeLineDown (h : s.Books) : (s.takeLineDown p).Books := by
  have hclear : ((s.detectBreak p).setMlu p
      { ((s.detectBreak p).mlu p).discard with lineUp := false, drivingBreak := false }).Books :=
    (h.detectBreak (p := p)).setMlu_clear rfl
  have hclosed := fun r => (hclear.of_ledger (setRecord_ledger _ p r)).closeAtLine (p := p)
    (by simp [Mlu.discard]) .linedown
  exact (hclosed _).of_ledger (post_ledger _ _)

theorem lineDownEvent (h : s.Books) : (s.lineDownEvent p).Books := by
  unfold State.lineDownEvent
  split_ifs
  · exact h
  · exact h.of_ledger (setMlu_ledger s p rfl)
  · exact h.takeLineDown.of_ledger (setMarking_ledger _ p _)
  · exact h

theorem lineUpEvent (h : s.Books) : (s.lineUpEvent p).Books := by
  unfold State.lineUpEvent
  split_ifs
  · exact h
  · exact h.of_ledger (setMlu_ledger s p rfl)
  · exact h.of_ledger (setMlu_ledger s p rfl)
  · exact h

theorem breakEvent (h : s.Books) : (s.breakEvent p).Books := by
  unfold State.breakEvent
  split_ifs
  · exact h.detectBreak.of_ledger (setMarking_ledger _ p _)
  · exact h

theorem meterResetEvent (h : s.Books) : (s.meterResetEvent p).Books := by
  unfold State.meterResetEvent
  split_ifs
  · exact (h.takeMeterReset _).of_ledger (setMarking_ledger _ p _)
  · exact h

/-! ### The transmitter and the receiver of a meter line (R126, R139 to R146) -/

theorem meterSlotFrees (h : s.Books) : (s.meterSlotFrees p).Books := by
  have hfree : (s.setMlu p (Mlu.beginNext { s.mlu p with
      slots := (s.mlu p).slots.release, sending := false, flowWaiting := false })).Books :=
    h.of_ledger (setMlu_ledger s p rfl)
  unfold State.meterSlotFrees
  dsimp only
  split_ifs
  · exact hfree.useSlot
  · exact hfree.of_ledger (setMlu_ledger _ p rfl)
  · exact h

theorem meterFlow (h : s.Books) (f : Flow) : (s.meterFlow p f).Books := by
  unfold State.meterFlow
  split_ifs
  · exact h
  · exact (h.meterReceives _).of_ledger (setMlu_ledger _ p (Mlu.obeys_owed _ f))

theorem meterHears (h : s.Books) (c : Chr) (e : CharError) : (s.meterHears p c e).Books := by
  unfold State.meterHears
  split_ifs
  · exact (h.of_ledger (setMlu_ledger s p (m := (s.mlu p).charPassed) rfl)).meterReceives _
  · exact h.meterReceives _
  · exact h

theorem breakEnds (h : s.Books) : (s.breakEnds p).Books := by
  unfold State.breakEnds
  split_ifs
  · exact h.of_ledger (setMlu_ledger s p rfl)
  · exact h

theorem meterIdleGap (h : s.Books) : (s.meterIdleGap p).Books := by
  unfold State.meterIdleGap
  split_ifs
  · exact h.of_ledger (setMlu_ledger s p rfl)
  · exact h

theorem testTimesOut (h : s.Books) : (s.testTimesOut p).Books := by
  unfold State.testTimesOut
  split_ifs
  · exact h.of_ledger (endTest_ledger s p _)
  · exact h

/-! ### The Run timers (R78, R79) -/

theorem silenceExpired (h : s.Books) : (s.silenceExpired p).Books := by
  unfold State.silenceExpired
  split
  · split_ifs
    · exact h
    · exact (h.of_ledger (latch_ledger s p _)).closeUnasked _ _
  · exact h

theorem waitExpired (h : s.Books) : (s.waitExpired p).Books := by
  unfold State.waitExpired
  split
  · split_ifs
    · exact ((h.of_ledger (post_ledger s _)).closeUnasked _ _).pass
    · exact h
  · exact h

end State.Books

/-! ### Starting (R83, R167 to R172) -/

/-- The funds of a Port after the closures of a restart: its Reserved is returned where it had a Run. -/
theorem restarted_funds (ret : Retained) (p : Port) : ret.restarted.funds.get p =
    if (ret.runs.get p).isSome then (ret.funds.get p).released else ret.funds.get p := by
  have key : ∀ (l : List Port) (v : Vector PortFunds 6),
      (l.foldl (fun v q => if (ret.runs.get q).isSome then v.set q (ret.funds.get q).released else v)
        v).get p =
        if p ∈ l ∧ (ret.runs.get p).isSome = true then (ret.funds.get p).released else v.get p := by
    intro l
    induction l with
    | nil => intro v; simp
    | cons q l ih =>
      intro v
      rw [List.foldl_cons, ih]
      by_cases e : p = q
      · subst e
        split_ifs <;> simp_all [get_set]
      · split_ifs <;> simp_all [get_set]
  have hp : p ∈ allPorts := by fin_cases p <;> decide
  exact (key allPorts ret.funds).trans (by simp [hp])

/-- Returning Reserved leaves the worth of every Port as it was. -/
theorem restarted_worth (ret : Retained) :
    sumOver ret.restarted.funds PortFunds.worth = sumOver ret.funds PortFunds.worth := by
  have e : ret.restarted.funds.map PortFunds.worth = ret.funds.map PortFunds.worth := by
    ext i hi
    have := restarted_funds ret ⟨i, hi⟩
    simp only [Vector.get_eq_getElem] at this
    simp only [Vector.getElem_map, this]
    split_ifs
    · simp [PortFunds.worth, PortFunds.released]
    · rfl
  simpa [sumOver, Vector.toList_map] using congrArg (fun v => (v.toList).sum) e

/-- A start-up keeps the books, whatever was owed or queued before it (R83, R170). -/
theorem startFrom_books {s : State} (hb : s.Balanced) (hp : ∀ p, s.PortSound p)
    (hs : ∀ i, (s.stockLine i).Sound) (c : Cause) (pins : Pins) : (s.startFrom c pins).Books where
  balanced := by
    change _ = _ + _ + sumOver s.ret.funds PortFunds.worth + _ + _ at hb
    change s.ret.credited + s.ret.surplus = s.ret.withdrawn + s.ret.pool +
      sumOver s.ret.restarted.funds PortFunds.worth + _ + s.ret.shortage
    rw [restarted_worth]
    exact hb
  ports := by
    intro p
    have hrun : (s.startFrom c pins).runOf p = none := by
      simp [runOf, startFrom, Retained.restarted, Vector.get_eq_getElem]
    obtain ⟨-, hres, hhold, hmax, hsv, hsp⟩ := portSound_iff.1 (hp p)
    refine (portSound_none hrun).2 ?_
    have hfunds : (s.startFrom c pins).fundsOf p =
        if (s.runOf p).isSome then (s.fundsOf p).released else s.fundsOf p := restarted_funds s.ret p
    rw [hfunds]
    split_ifs with hr
    · constructor <;> simp only [PortFunds.released] <;> omega
    · have h0 := reservedFor_none (by simpa using hr : s.runOf p = none)
      constructor <;> omega
  owed := fun p => .of_none (by simp [mlu, startFrom, Mlu.atStart])
  queue := ⟨List.nodup_nil, fun p => by
    simp [runOf, startFrom, Retained.restarted, Vector.get_eq_getElem]⟩
  stock := hs

namespace State.Books

variable {s : State}

theorem startFrom (h : s.Books) (c : Cause) (pins : Pins) : (s.startFrom c pins).Books :=
  startFrom_books h.balanced h.ports h.stock c pins

end State.Books

/-- The retained contents as they are taken in LOCKED and after REINIT: nothing is held, used or in
stock. -/
structure Retained.Blank (ret : Retained) : Prop where
  figures : ret.pool = 0 ∧ ret.credited = 0 ∧ ret.withdrawn = 0 ∧ ret.surplus = 0 ∧ ret.shortage = 0
  funds : ∀ p, (ret.funds.get p).Holds 0 0 0 ∧ (ret.funds.get p).worth = 0
  runs : ∀ p, ret.runs.get p = none
  queue : ret.queue = []
  stock : ∀ i, ret.stock.get i = StockLine.initial

theorem locked_blank : Retained.locked.Blank where
  figures := ⟨rfl, rfl, rfl, rfl, rfl⟩
  funds := fun p => by
    have e : Retained.locked.funds.get p = PortFunds.zero := by
      simp [Retained.locked, Vector.get_eq_getElem]
    rw [e]
    exact ⟨⟨rfl, by decide, by decide, by decide, by decide⟩, rfl⟩
  runs := fun p => by simp [Retained.locked, Retained.initial, Vector.get_eq_getElem]
  queue := rfl
  stock := fun i => by simp [Retained.locked, Retained.initial, Vector.get_eq_getElem]

theorem initial_blank : Retained.initial.Blank where
  figures := ⟨rfl, rfl, rfl, rfl, rfl⟩
  funds := fun p => by
    have e : Retained.initial.funds.get p = PortFunds.initial := by
      simp [Retained.initial, Vector.get_eq_getElem]
    rw [e]
    exact ⟨⟨rfl, by decide, by decide, by decide, by decide⟩, rfl⟩
  runs := fun p => by simp [Retained.initial, Vector.get_eq_getElem]
  queue := rfl
  stock := fun i => by simp [Retained.initial, Vector.get_eq_getElem]

theorem stockLine_initial_sound : StockLine.initial.Sound :=
  ⟨by decide, by decide, by decide, fun h => absurd rfl h, fun _ => rfl⟩

/-- A figure that is zero at every entry has sum zero. -/
theorem sumOver_eq_zero {α : Type} {n : Nat} {v : Vector α n} {f : α → Nat}
    (h : ∀ i, f (v.get i) = 0) : sumOver v f = 0 := by
  refine List.sum_eq_zero fun x hx => ?_
  obtain ⟨a, ha, rfl⟩ := List.mem_map.1 hx
  obtain ⟨i, hi, rfl⟩ := List.getElem_of_mem ha
  simpa [Vector.get_eq_getElem] using h ⟨i, by simpa using hi⟩

section

variable {s : State}

theorem Retained.Blank.balanced (h : s.ret.Blank) : s.Balanced := by
  obtain ⟨hpool, hcredited, hwithdrawn, hsurplus, hshortage⟩ := h.figures
  have hfunds : sumOver s.ret.funds PortFunds.worth = 0 := sumOver_eq_zero fun p => (h.funds p).2
  have hstock : sumOver s.ret.stock (fun l => l.onHand * l.unit + l.soldValue) = 0 :=
    sumOver_eq_zero fun i => by rw [h.stock]; rfl
  change _ = _ + _ + sumOver s.ret.funds PortFunds.worth + _ + _
  rw [hpool, hcredited, hwithdrawn, hsurplus, hshortage, hfunds, hstock]

theorem Retained.Blank.portSound (h : s.ret.Blank) (p : Port) : s.PortSound p :=
  (portSound_none (h.runs p)).2 (h.funds p).1

theorem Retained.Blank.stockSound (h : s.ret.Blank) (i : Fin 24) : (s.stockLine i).Sound := by
  rw [stockLine, h.stock]
  exact stockLine_initial_sound

/-- A part that finds its contents bad takes them as blank, and starts (R169, R170). -/
theorem State.Books.powerUp (h : s.Books) (pins : Pins) (cellFailed : Bool) :
    (s.powerUp pins cellFailed).Books := by
  unfold State.powerUp
  split_ifs
  · exact h.startFrom _ _
  · unfold State.lockContents
    split_ifs
    · exact h.startFrom _ _
    · exact startFrom_books (Retained.Blank.balanced locked_blank)
        (Retained.Blank.portSound locked_blank) (Retained.Blank.stockSound locked_blank) _ _

/-- Contents that are blank before and after a change that leaves the meter lines alone: with no Run on any
Port, what is owed may go on being owed (R172). -/
theorem State.Books.of_blank {t : State} (h : s.Books) (hs : s.ret.Blank) (ht : t.ret.Blank)
    (hm : t.mlus = s.mlus) : t.Books where
  balanced := ht.balanced
  ports := ht.portSound
  owed := fun p => (h.owed p).congr (congrArg (fun v => (Vector.get v p).owed) hm)
    ((ht.runs p).trans (hs.runs p).symm)
  queue := ⟨ht.queue ▸ List.nodup_nil, fun p => by
    have := ht.runs p
    simp [ht.queue, runOf, this]⟩
  stock := ht.stockSound

theorem State.Books.restartNow (h : s.Books) : s.restartNow.Books := by
  unfold State.restartNow
  split
  · exact State.Books.startFrom (s := { s with sampled := s.sampled + 1 }) (h.of_ledger rfl) _ _
  · exact h

theorem State.Books.restartEvent (h : s.Books) (c : Cause) (pins : Pins) :
    (s.restartEvent c pins).Books := by
  unfold State.restartEvent
  split_ifs
  · exact h.startFrom _ _
  · exact h

end

end Sys2Proof.Machine

/-! SUPPORT. Every host request keeps the books, and with it the law of the contents in LOCKED (chapters 1
to 6, 8 and 10). -/

namespace Sys2Proof.Machine

open State

/-- What an accepted request must leave. -/
abbrev LeavesBooks (x : Answered) : Prop := Leaves x State.Books

/-- A request that leaves the ledger alone leaves the books. -/
theorem leavesBooks_of_ledger {s t : State} {r : HostReply} (h : s.Books) (e : t.ledger = s.ledger) :
    LeavesBooks (.ok (t, r)) := leaves_ok (h.of_ledger e)

/-! ### Orders and Allotments (chapters 1 and 2) -/

section

variable {s : State} (h : s.Books) (fs : List Text)

include h

theorem State.Books.creditOrder (order amount : Nat) : (s.creditOrder order amount).Books := by
  refine h.branch rfl ?_ h.stock
  have := h.balanced
  simp only [State.Balanced, State.creditOrder] at *
  omega

theorem refillRequest_books : LeavesBooks (refillRequest fs s) := by
  unfold refillRequest
  repeat' refine leaves_bind fun _ _ => ?_
  exact leaves_ok ((h.creditOrder _ _).of_ledger (post_ledger _ _)).pass

theorem withdrawRequest_books : LeavesBooks (withdrawRequest fs s) := by
  unfold withdrawRequest
  refine leaves_bind fun order _ => leaves_bind fun amount _ => leaves_bind fun _ _ =>
    leaves_bind fun _ _ => leaves_bind fun _ _ => leaves_bind fun _ hshort => leaves_bind fun _ _ => ?_
  rw [refuseIf_eq_ok, Nat.not_lt] at hshort
  have hdebited : ({ s with ret := { s.ret with
      pool := s.ret.pool - amount
      withdrawn := s.ret.withdrawn + amount
      lastOrder := order } } : State).Books := by
    refine h.branch rfl ?_ h.stock
    have := h.balanced
    simp only [State.Balanced] at *
    omega
  exact leaves_ok (hdebited.of_ledger (post_ledger _ _))

theorem spoilrefRequest_books : LeavesBooks (spoilrefRequest fs s) := by
  unfold spoilrefRequest
  refine leaves_bind fun order _ => leaves_bind fun _ _ => leaves_bind fun pieces _ =>
    leaves_bind fun amount _ => leaves_bind fun _ _ => leaves_bind fun p _ => ?_
  repeat' refine leaves_bind fun _ _ => ?_
  have hspoil : (s.setFunds p { s.fundsOf p with
      spoilPieces := (s.fundsOf p).spoilPieces - pieces
      spoilValue := (s.fundsOf p).spoilValue - amount }).Books :=
    h.setFunds rfl rfl rfl rfl (Nat.sub_le _ _) (Nat.sub_le _ _)
  exact leaves_ok ((hspoil.creditOrder order amount).of_ledger (post_ledger _ _)).pass

theorem recallRequest_books : LeavesBooks (recallRequest fs s) := by
  unfold recallRequest
  refine leaves_bind fun _ _ => leaves_bind fun given _ => leaves_bind fun p _ =>
    leaves_bind fun _ _ => leaves_bind fun _ hshort => leaves_bind fun _ _ => ?_
  rw [refuseIf_eq_ok, Nat.not_lt] at hshort
  refine leaves_ok (Books.pass (h.exchange ?_ rfl rfl rfl le_rfl le_rfl ?_))
  · simp only [PortFunds.worth]
    omega
  · dsimp only
    omega

theorem levelsRequest_books : LeavesBooks (levelsRequest fs s) := by
  unfold levelsRequest
  repeat' refine leaves_bind fun _ _ => ?_
  exact leaves_ok (Books.lowMarkCheck (h.setFunds rfl rfl rfl rfl le_rfl le_rfl))

theorem limitsRequest_books : LeavesBooks (limitsRequest fs s) := by
  unfold limitsRequest
  repeat' refine leaves_bind fun _ _ => ?_
  exact leaves_ok (h.setFunds rfl rfl rfl rfl le_rfl le_rfl)

theorem fundsRequest_books : LeavesBooks (fundsRequest s) := leaves_ok h

theorem portfundsRequest_books : LeavesBooks (portfundsRequest fs s) := by
  unfold portfundsRequest
  repeat' refine leaves_bind fun _ _ => ?_
  exact leaves_ok h

/-! ### Rate Tables (chapter 3) -/

theorem bandRequest_books : LeavesBooks (bandRequest fs s) := by
  unfold bandRequest
  repeat' refine leaves_bind fun _ _ => ?_
  split
  · exact leavesBooks_of_ledger h rfl
  · repeat' refine leaves_bind fun _ _ => ?_
    exact leavesBooks_of_ledger h rfl

theorem quoteRequest_books : LeavesBooks (quoteRequest fs s) := by
  unfold quoteRequest
  repeat' refine leaves_bind fun _ _ => ?_
  split
  · exact leaves_bind fun _ _ => leaves_refuse _ _ _
  · repeat' refine leaves_bind fun _ _ => ?_
    split
    · exact leaves_refuse _ _ _
    · exact leaves_ok h

theorem surchRequest_books : LeavesBooks (surchRequest fs s) := by
  unfold surchRequest
  repeat' refine leaves_bind fun _ _ => ?_
  exact leavesBooks_of_ledger h rfl

theorem raterepRequest_books : LeavesBooks (raterepRequest fs s) := by
  unfold raterepRequest
  repeat' refine leaves_bind fun _ _ => ?_
  exact leaves_ok h

theorem tierRequest_books : LeavesBooks (tierRequest fs s) := by
  unfold tierRequest
  repeat' refine leaves_bind fun _ _ => ?_
  split
  · refine leaves_bind fun _ _ => ?_
    exact leavesBooks_of_ledger h rfl
  · repeat' refine leaves_bind fun _ _ => ?_
    exact leavesBooks_of_ledger h rfl

theorem editionRequest_books : LeavesBooks (editionRequest fs s) := by
  unfold editionRequest
  repeat' refine leaves_bind fun _ _ => ?_
  exact leavesBooks_of_ledger h rfl

theorem activateRequest_books : LeavesBooks (activateRequest fs s) := by
  unfold activateRequest
  repeat' refine leaves_bind fun _ _ => ?_
  split_ifs
  · exact leaves_error _ _
  · refine leaves_bind fun _ _ => ?_
    exact leavesBooks_of_ledger h (post_ledger _ _)

theorem clearnextRequest_books : LeavesBooks (clearnextRequest s) := leavesBooks_of_ledger h rfl

/-! ### Runs (chapter 4) -/

/-- A CANCEL is refused, closes the Run, or takes an ACTIVE Run that owes no frame to CANCELLING (R73 to
R76). -/
theorem cancelRequest_books : LeavesBooks (cancelRequest fs s) := by
  unfold cancelRequest
  refine leaves_bind fun _ _ => leaves_bind fun p _ => leaves_bind fun r hr =>
    leaves_bind fun _ hstate => ?_
  rw [orRefuse_eq_ok] at hr
  rw [refuseIf_eq_ok] at hstate
  split_ifs with hw howes
  · exact leaves_ok (h.closeUnasked r .cancelled).pass
  · exact leaves_ok (h.closeUnasked r .cancelled)
  all_goals
    have ho : (s.mlu p).owed = none := by
      have := h.owed p
      unfold OwedSound at this
      unfold owesRunok at howes
      rw [hr] at this
      cases hf : (s.mlu p).owed with
      | none => rfl
      | some f => cases f <;> simp_all [MeterFrame.isRunok]
    obtain ⟨hs, hf⟩ := (portSound_held hr hw).1 (h.ports p)
    have hs' : r.toCancelling.Sound := ⟨hs.charge, hs.total, hs.totalMax, hs.granted, hs.printed, hs.block,
      hs.spoiled, nofun, by simp [Run.toCancelling]⟩
    have h' := h.replace (f := (s.setRun p (some r.toCancelling)).fundsOf p) hr hw
      (by simp [Run.toCancelling]) ho rfl hs' hf
    rw [setFunds_fundsOf_self] at h'
  · exact leaves_ok h'
  · exact leaves_ok (h'.sendUnasked (by simp [Owable, OwedSound, Run.toCancelling]))

end

/-! ### Stamp stock (chapter 5) -/

/-- A line that is defined, with its counts booked anew (R85). -/
theorem StockLine.Sound.book {l : StockLine} (h : l.Sound) (hd : l.state ≠ .undefinedLine) {n a v : Nat}
    (hn : n ≤ 9999) (ha : a ≤ v) (hv : v ≤ Config.lifetimeMax) :
    ({ l with onHand := n, soldPieces := a, soldValue := v } : StockLine).Sound :=
  ⟨hn, ha, hv, h.defined, fun e => absurd e hd⟩

/-- One piece of a line that is defined has a value (R85). -/
theorem StockLine.Sound.one_le_unit {l : StockLine} (h : l.Sound) (hd : l.state ≠ .undefinedLine) :
    1 ≤ l.unit := by
  obtain ⟨-, d, hden, hle, -⟩ := h.defined hd
  simpa [StockLine.unit, hden] using hle

/-- The value of a shortage or a surplus is the difference of the values on hand (R95). -/
theorem countValue_add (l : StockLine) (n : Nat) :
    if n < l.onHand then n * l.unit + countValue l n = l.onHand * l.unit
    else l.onHand * l.unit + countValue l n = n * l.unit := by
  unfold countValue
  split_ifs with hn
  · rw [← Nat.add_mul, Nat.add_sub_cancel' (Nat.le_of_lt hn)]
  · rw [← Nat.add_mul, Nat.add_sub_cancel' (Nat.le_of_not_lt hn)]

theorem readStockState_ne {t : Text} {x : StockState} (h : readStockState t = some x) :
    x ≠ .undefinedLine := by
  have := List.mem_of_find?_eq_some h
  rintro rfl
  simp at this

section

variable {s : State} (h : s.Books) (fs : List Text)

include h

/-- A Stock Line is stored: what it adds to the balance comes from the pool and the counted differences. -/
theorem State.Books.storeLine {t : State} {i : Fin 24} {l : StockLine}
    (e : t.ledger = { s.ledger with
      pool := t.ret.pool, surplus := t.ret.surplus, shortage := t.ret.shortage,
      stock := s.ret.stock.set i l })
    (hl : l.Sound)
    (hb : t.ret.surplus + (s.ret.pool + ((s.stockLine i).onHand * (s.stockLine i).unit +
        (s.stockLine i).soldValue) + s.ret.shortage) =
      s.ret.surplus + (t.ret.pool + (l.onHand * l.unit + l.soldValue) + t.ret.shortage)) : t.Books := by
  have hst : t.ret.stock = s.ret.stock.set i l := congrArg Ledger.stock e
  have hc : t.ret.credited = s.ret.credited := congrArg Ledger.credited e
  have hw : t.ret.withdrawn = s.ret.withdrawn := congrArg Ledger.withdrawn e
  have hf : t.ret.funds = s.ret.funds := congrArg Ledger.funds e
  refine h.branch (by rw [hst, hc, hw]; exact e) ?_ fun j => ?_
  · have hsum := sumOver_set s.ret.stock i l fun l => l.onHand * l.unit + l.soldValue
    have := h.balanced
    simp only [State.Balanced, stockLine, hf, hst, hc, hw] at *
    omega
  · have := h.stock j
    simp only [stockLine, hst, get_set] at *
    split_ifs
    · exact hl
    · exact this

theorem lineRequest_books : LeavesBooks (lineRequest fs s) := by
  unfold lineRequest
  refine leaves_bind fun i _ => leaves_bind fun d _ => leaves_bind fun _ hrange =>
    leaves_bind fun form _ => leaves_bind fun state hstate => leaves_bind fun _ hempty => ?_
  rw [refuseIf_eq_ok] at hrange hempty
  have hdefined := readStockState_ne ((wordField_eq_ok _ _ _ _).1 hstate).2
  have hline := h.stock i
  have hvalue : (s.stockLine i).onHand * d = (s.stockLine i).onHand * (s.stockLine i).unit := by
    by_cases h0 : (s.stockLine i).onHand = 0
    · simp [h0]
    · have hd : (s.stockLine i).state ≠ .undefinedLine := fun e => h0 (by rw [hline.absent e]; rfl)
      obtain ⟨-, d', hden, -⟩ := hline.defined hd
      have : d' = d := by simpa [hden, Nat.pos_of_ne_zero h0] using hempty
      simp [StockLine.unit, hden, this]
  refine leaves_ok (h.storeLine rfl ⟨hline.onHand, hline.soldPieces, hline.soldValue,
    fun _ => ⟨rfl, d, rfl, by omega⟩, fun e => absurd e hdefined⟩ ?_)
  simp only [StockLine.unit, Option.getD_some, setStockLine_ret] at hvalue ⊢
  omega

/-- The pieces and the value of a RECEIVE come out of the pool (R90). -/
theorem receiveRequest_books : LeavesBooks (receiveRequest fs s) := by
  unfold receiveRequest
  refine leaves_bind fun i _ => leaves_bind fun n _ => leaves_bind fun _ hstate =>
    leaves_bind fun _ _ => leaves_bind fun _ hfull => leaves_bind fun _ hshort => ?_
  rw [refuseIf_eq_ok] at hstate hfull hshort
  have hline := h.stock i
  have hd : (s.stockLine i).state ≠ .undefinedLine := by simp [not_not.1 hstate]
  refine leaves_ok (h.storeLine rfl (hline.book hd (by omega) hline.soldPieces hline.soldValue) ?_)
  have : ((s.stockLine i).onHand + n) * (s.stockLine i).unit = _ := Nat.add_mul _ _ _
  simp only [StockLine.unit, setStockLine_ret, setPool_ret] at *
  omega

theorem sellRequest_books : LeavesBooks (sellRequest fs s) := by
  unfold sellRequest
  refine leaves_bind fun i _ => leaves_bind fun n _ => leaves_bind fun _ hstate =>
    leaves_bind fun _ hshort => leaves_bind fun _ hfull => ?_
  rw [refuseIf_eq_ok] at hstate hfull hshort
  have hline := h.stock i
  have hpieces : n ≤ n * (s.stockLine i).unit := Nat.le_mul_of_pos_right n (hline.one_le_unit hstate)
  have hsold := hline.soldPieces
  refine leaves_ok (h.storeLine rfl (hline.book hstate ((Nat.sub_le _ _).trans hline.onHand) (by omega)
    (by omega)) ?_)
  have : ((s.stockLine i).onHand - n) * (s.stockLine i).unit = _ := Nat.sub_mul _ _ _
  have hle := Nat.mul_le_mul_right (s.stockLine i).unit (Nat.le_of_not_lt hshort)
  simp only [StockLine.unit, setStockLine_ret] at *
  omega

theorem returnRequest_books : LeavesBooks (returnRequest fs s) := by
  unfold returnRequest
  refine leaves_bind fun i _ => leaves_bind fun n _ => leaves_bind fun _ hstate =>
    leaves_bind fun _ hshort => leaves_bind fun _ _ => ?_
  rw [refuseIf_eq_ok] at hstate hshort
  have hline := h.stock i
  refine leaves_ok (Books.pass (h.storeLine rfl (hline.book hstate ((Nat.sub_le _ _).trans hline.onHand)
    hline.soldPieces hline.soldValue) ?_))
  have : ((s.stockLine i).onHand - n) * (s.stockLine i).unit = _ := Nat.sub_mul _ _ _
  have hle := Nat.mul_le_mul_right (s.stockLine i).unit (Nat.le_of_not_lt hshort)
  simp only [StockLine.unit, State.returned, setStockLine_ret, setPool_ret] at *
  omega

theorem countRequest_books : LeavesBooks (countRequest fs s) := by
  unfold countRequest
  refine leaves_bind fun i _ => leaves_bind fun n _ => leaves_bind fun _ hrange =>
    leaves_bind fun _ hstate => leaves_bind fun _ _ => leaves_bind fun _ _ => ?_
  rw [refuseIf_eq_ok] at hrange hstate
  have hline := h.stock i
  refine leaves_ok ?_
  split_ifs
  · exact h
  · have hbooked : ∀ logged : State, logged.ledger = { s.ledger with
        surplus := s.ret.surplus + if n < (s.stockLine i).onHand then 0 else countValue (s.stockLine i) n
        shortage := s.ret.shortage + if n < (s.stockLine i).onHand then countValue (s.stockLine i) n else 0
        stock := s.ret.stock.set i { s.stockLine i with onHand := n } } → logged.Books := by
      intro logged e
      have hpool : logged.ret.pool = s.ret.pool := congrArg Ledger.pool e
      have hsurplus : logged.ret.surplus = _ := congrArg Ledger.surplus e
      have hshortage : logged.ret.shortage = _ := congrArg Ledger.shortage e
      refine h.storeLine (by rw [hpool, hsurplus, hshortage]; exact e)
        (hline.book hstate (Nat.le_of_not_lt hrange) hline.soldPieces hline.soldValue) ?_
      have hsub := countValue_add (s.stockLine i) n
      rw [hpool, hsurplus, hshortage]
      dsimp only
      split_ifs at * <;> simp only [StockLine.unit] at * <;> omega
    exact (hbooked _ rfl).of_ledger (post_ledger _ _)

end

end Sys2Proof.Machine

/-! SUPPORT. The requests on Ports and on the part itself, the Host Line Unit, and the step: every command
keeps the books (O5). -/

namespace Sys2Proof.Machine

open State

/-! ### Requests on stock reports and Ports (chapters 5 and 6, sections 7.5 and 7.6) -/

section

variable {s : State} (h : s.Books) (fs : List Text)

include h

theorem stockrepRequest_books : LeavesBooks (stockrepRequest fs s) := by
  unfold stockrepRequest
  repeat' refine leaves_bind fun _ _ => ?_
  exact leaves_ok h

theorem discrepRequest_books : LeavesBooks (discrepRequest fs s) := by
  unfold discrepRequest
  repeat' refine leaves_bind fun _ _ => ?_
  exact leaves_ok h

theorem offerRequest_books : LeavesBooks (offerRequest fs s) := by
  unfold offerRequest
  repeat' refine leaves_bind fun _ _ => ?_
  exact leavesBooks_of_ledger h rfl

theorem suspendRequest_books : LeavesBooks (suspendRequest fs s) := by
  unfold suspendRequest
  refine leaves_bind fun _ _ => leaves_bind fun p _ => leaves_bind fun _ _ => ?_
  have h' : (s.setSuspended p true).Books := h.of_ledger rfl
  dsimp only
  split
  · exact leaves_ok (h'.closeUnasked _ _).pass
  · exact leaves_ok h'

theorem resumeRequest_books : LeavesBooks (resumeRequest fs s) := by
  unfold resumeRequest
  repeat' refine leaves_bind fun _ _ => ?_
  exact leavesBooks_of_ledger h rfl

theorem portrepRequest_books : LeavesBooks (portrepRequest fs s) := by
  unfold portrepRequest
  repeat' refine leaves_bind fun _ _ => ?_
  exact leavesBooks_of_ledger h rfl

theorem meterresetRequest_books : LeavesBooks (meterresetRequest fs s) := by
  unfold meterresetRequest
  refine leaves_bind fun _ _ => leaves_bind fun p _ => leaves_bind fun _ _ => ?_
  split_ifs
  · exact leavesBooks_of_ledger (h.takeMeterReset .command) (setMlu_ledger _ p rfl)
  · exact leaves_ok h

/-- LOOP ON and LOOP OFF leave a Meter Line Unit that owes nothing (R144, R145). -/
theorem loopRequest_books : LeavesBooks (loopRequest fs s) := by
  have hswitched : ∀ p r, ((s.setMlu p (s.mlu p).switched).setRecord p r).Books :=
    fun p r => (h.setMlu_clear rfl).of_ledger (setRecord_ledger _ p r)
  unfold loopRequest
  refine leaves_bind fun _ _ => leaves_bind fun on _ => leaves_bind fun p _ => ?_
  split_ifs
  · refine leaves_bind fun _ _ => leaves_bind fun _ _ => ?_
    exact leaves_ok (hswitched p _)
  · refine leaves_bind fun _ _ => ?_
    exact leaves_ok (hswitched p _)

theorem linetestRequest_books : LeavesBooks (linetestRequest fs s) := by
  unfold linetestRequest
  repeat' refine leaves_bind fun _ _ => ?_
  exact leavesBooks_of_ledger h (startTest_ledger s _ _)

/-! ### Requests on the part (chapters 8 to 10) -/

theorem noticesRequest_books : LeavesBooks (noticesRequest s) := leavesBooks_of_ledger h rfl

/-- REINIT is carried out in LOCKED alone, where the contents are taken as blank already (R167, R172). -/
theorem reinitRequest_books (hl : s.LockedSound) : LeavesBooks (reinitRequest s) := by
  unfold reinitRequest
  refine leaves_bind fun _ hlocked => leaves_ok ?_
  rw [refuseIf_eq_ok, Bool.not_eq_false] at hlocked
  have hblank : s.ret.Blank := hl hlocked ▸ locked_blank
  have h' : s.reinitialised.Books := h.of_blank hblank initial_blank rfl
  exact h'.of_ledger (setHost_ledger _ _)

end

/-! ### Taking requests (R149, R152) -/

/-- The laws that a request taken after another needs: the books and the law of the contents in LOCKED. -/
structure State.Lawful (s : State) : Prop extends s.Books where
  locked : s.LockedSound

theorem State.Lawful.of_ret {s t : State} (h : s.Lawful) (e : t.ledger = s.ledger) (hr : t.ret = s.ret)
    (hm : t.lockMark = s.lockMark) : t.Lawful :=
  ⟨h.toBooks.of_ledger e, by
    have := h.locked
    rw [LockedSound] at this ⊢
    rw [hr, hm]
    exact this⟩

/-- A verb that is served keeps the laws: in NORMAL the device state stays, and in LOCKED STATUS changes
nothing retained and REINIT clears the lock mark. -/
theorem perform_lawful {s : State} (h : s.Lawful) {v : HostVerb} (fs : List Text)
    (hv : (s.lockMark && !v.servedLocked) = false) : Leaves (perform v fs s) State.Lawful := by
  have hb := h.toBooks
  have normal : ∀ {x : Answered}, v.servedLocked = false → LeavesOutside x s → LeavesBooks x →
      Leaves x State.Lawful := by
    intro x hserved hout hbooks t r e
    have hunlocked : s.lockMark = false := by simpa [hserved] using hv
    refine ⟨hbooks t r e, fun hlocked => ?_⟩
    rw [outside_lockMark (hout t r e), hunlocked] at hlocked
    cases hlocked
  cases v
  case refill => exact normal rfl (refillRequest_outside fs s) (refillRequest_books hb fs)
  case withdraw => exact normal rfl (withdrawRequest_outside fs s) (withdrawRequest_books hb fs)
  case spoilref => exact normal rfl (spoilrefRequest_outside fs s) (spoilrefRequest_books hb fs)
  case levels => exact normal rfl (levelsRequest_outside fs s) (levelsRequest_books hb fs)
  case limits => exact normal rfl (limitsRequest_outside fs s) (limitsRequest_books hb fs)
  case funds => exact normal rfl (fundsRequest_outside s) (fundsRequest_books hb)
  case portfunds => exact normal rfl (portfundsRequest_outside fs s) (portfundsRequest_books hb fs)
  case band => exact normal rfl (bandRequest_outside fs s) (bandRequest_books hb fs)
  case quote => exact normal rfl (quoteRequest_outside fs s) (quoteRequest_books hb fs)
  case surch => exact normal rfl (surchRequest_outside fs s) (surchRequest_books hb fs)
  case raterep => exact normal rfl (raterepRequest_outside fs s) (raterepRequest_books hb fs)
  case tier => exact normal rfl (tierRequest_outside fs s) (tierRequest_books hb fs)
  case edition => exact normal rfl (editionRequest_outside fs s) (editionRequest_books hb fs)
  case activate => exact normal rfl (activateRequest_outside fs s) (activateRequest_books hb fs)
  case clearnext => exact normal rfl (clearnextRequest_outside s) (clearnextRequest_books hb)
  case cancel => exact normal rfl (cancelRequest_outside fs s) (cancelRequest_books hb fs)
  case line => exact normal rfl (lineRequest_outside fs s) (lineRequest_books hb fs)
  case receive => exact normal rfl (receiveRequest_outside fs s) (receiveRequest_books hb fs)
  case sell => exact normal rfl (sellRequest_outside fs s) (sellRequest_books hb fs)
  case returnStock => exact normal rfl (returnRequest_outside fs s) (returnRequest_books hb fs)
  case count => exact normal rfl (countRequest_outside fs s) (countRequest_books hb fs)
  case stockrep => exact normal rfl (stockrepRequest_outside fs s) (stockrepRequest_books hb fs)
  case discrep => exact normal rfl (discrepRequest_outside fs s) (discrepRequest_books hb fs)
  case offer => exact normal rfl (offerRequest_outside fs s) (offerRequest_books hb fs)
  case suspend => exact normal rfl (suspendRequest_outside fs s) (suspendRequest_books hb fs)
  case resume => exact normal rfl (resumeRequest_outside fs s) (resumeRequest_books hb fs)
  case portrep => exact normal rfl (portrepRequest_outside fs s) (portrepRequest_books hb fs)
  case meterreset => exact normal rfl (meterresetRequest_outside fs s) (meterresetRequest_books hb fs)
  case loop => exact normal rfl (loopRequest_outside fs s) (loopRequest_books hb fs)
  case linetest => exact normal rfl (linetestRequest_outside fs s) (linetestRequest_books hb fs)
  case notices => exact normal rfl (noticesRequest_outside s) (noticesRequest_books hb)
  case status => exact leaves_ok (h.of_ret rfl rfl rfl)
  case restart => exact leaves_ok (h.of_ret rfl rfl rfl)
  case reinit =>
    intro t r e
    refine ⟨reinitRequest_books hb h.locked t r e, fun hlocked => ?_⟩
    obtain ⟨_, -, e⟩ := (bind_eq_ok _ _ _).1 e
    cases e
    cases hlocked
  -- RECALL is left: its constructor's name is a keyword of Lean, which `case` does not take
  exact normal rfl (recallRequest_outside fs s) (recallRequest_books hb fs)

namespace State.Lawful

variable {s : State}

theorem answerRequest (h : s.Lawful) (f : Frame) : (answerRequest f s).1.Lawful := by
  unfold Machine.answerRequest
  split
  · exact h
  · split_ifs with hserved
    · exact h
    · exact h
    · split
      · exact h
      · rename_i r hr
        exact perform_lawful h f.fields (by simpa using hserved) r.1 r.2 hr

theorem takeRequest (h : s.Lawful) (f : Frame) : (s.takeRequest f).Lawful :=
  (h.answerRequest f).of_ret (reply_ledger _ _) rfl rfl

theorem setHost (h : s.Lawful) (u : HostUnit) : (s.setHost u).Lawful := h.of_ret rfl rfl rfl

/-- Held requests are taken one after another (R149). -/
theorem takeHeld (fuel : Nat) : ∀ {s : State}, s.Lawful → (takeHeld fuel s).Lawful := by
  induction fuel with
  | zero => exact fun h => h
  | succ fuel ih =>
    intro s h
    unfold State.takeHeld
    split
    · exact h
    · split_ifs
      · exact ih ((h.setHost _).takeRequest _)
      · exact h

theorem requestArrives (h : s.Lawful) (f : Frame) : (s.requestArrives f).Lawful := by
  unfold State.requestArrives
  split_ifs
  · exact takeHeld _ (h.setHost _)
  · exact h.setHost _

/-! ### The host line (R150, R151, R158, R159) -/

theorem hostReceives (h : s.Lawful) (step : Receiver → Receiver × Option Termination) :
    (s.hostReceives step).Books := by
  unfold State.hostReceives
  dsimp only
  split
  · exact ((h.setHost _).requestArrives _).toBooks
  · exact (h.setHost _).toBooks.of_ledger (hostFault_ledger _ _)
  · exact (h.setHost _).toBooks

theorem hostSlotFrees (h : s.Lawful) : s.hostSlotFrees.Books := by
  unfold State.hostSlotFrees
  split
  · exact h.toBooks
  · split_ifs
    · exact h.toBooks.restartNow
    · exact (takeHeld _ (h.setHost _)).toBooks

end State.Lawful

theorem State.Books.hostBreaks {s : State} (h : s.Books) (begun : Bool) : (s.hostBreaks begun).Books := by
  unfold State.hostBreaks
  dsimp only
  split_ifs
  · exact (h.of_ledger (setHost_ledger s _)).restartNow
  · exact h.of_ledger (setHost_ledger s _)

/-! ### The step -/

section

variable {s : State}

/-- An event that a running part takes keeps the books where its effect does (R168). -/
theorem State.Books.during (h : s.Books) {f : State → State} (hf : (f s).Books) {t : State}
    (e : s.during f = .next t) : t.Books := by
  unfold State.during at e
  cases e
  split_ifs
  · exact hf
  · exact h

theorem State.Lawful.request (h : s.Lawful) {i : Instr} {v : HostVerb} {fs : List Text}
    (hi : hostRequest i = some (v, fs)) {t : State} (e : exec i s = .next t) : t.Books := by
  rw [exec_of_hostRequest hi] at e
  exact h.toBooks.during (h.requestArrives _).toBooks e

/-- A character received on a line (R126 to R131). -/
theorem State.Lawful.characterReceived (h : s.Lawful) (line : Line) (c : Chr) (e : CharError) {t : State}
    (hstep : exec (.characterReceived line c e) s = .next t) : t.Books := by
  change execCharacterReceived line c e s = .next t at hstep
  unfold execCharacterReceived at hstep
  refine h.toBooks.during ?_ hstep
  split
  · exact h.hostReceives _
  · exact h.toBooks.meterFlow _
  · exact h.hostReceives _
  · exact h.toBooks.meterHears _ _

/-- Every command keeps the books (R14, R58). -/
theorem exec_books (h : s.Lawful) {i : Instr} {t : State} (e : exec i s = .next t) : t.Books := by
  have hb := h.toBooks
  cases i
  case hostUnknownVerb => exact hb.during (h.requestArrives _).toBooks e
  case hostFrameComplete => exact hb.during (h.hostReceives _) e
  case hostFrameError reason =>
    change execHostFrameError reason s = .next t at e
    unfold execHostFrameError at e
    refine hb.during ?_ e
    split_ifs
    · exact hb
    · exact h.hostReceives _
  case hostBreak => exact hb.during (hb.hostBreaks _) e
  case hostSlotFree => exact hb.during h.hostSlotFrees e
  case hostFlowCharacter => exact hb.during (h.hostReceives _) e
  case idleGapElapsed line =>
    change execIdleGapElapsed line s = .next t at e
    unfold execIdleGapElapsed at e
    refine hb.during ?_ e
    cases line
    · exact hb.of_ledger (setHost_ledger s _)
    · exact hb.meterIdleGap
  case intercharacterLimitExpiry line =>
    cases line
    · exact hb.during (h.hostReceives _) e
    · exact hb.during (hb.meterReceives _) e
  case messageLimitExpiry line =>
    cases line
    · exact hb.during (h.hostReceives _) e
    · exact hb.during (hb.meterReceives _) e
  case meterFrameComplete => exact hb.during (hb.meterReceives _) e
  case meterFrameError => exact hb.during (hb.meterReceives _) e
  case meterSlotFree => exact hb.during hb.meterSlotFrees e
  case hold => exact hb.during (hb.meterFlow _) e
  case go => exact hb.during (hb.meterFlow _) e
  case announce => exact hb.during (hb.frameArrives _) e
  case run => exact hb.during (hb.frameArrives _) e
  case done => exact hb.during (hb.frameArrives _) e
  case stop => exact hb.during (hb.frameArrives _) e
  case meterUnknownVerb => exact hb.during (hb.frameArrives _) e
  case breakDetected => exact hb.during hb.breakEvent e
  case meterReset => exact hb.during hb.meterResetEvent e
  case lineDown => exact hb.during hb.lineDownEvent e
  case lineUp => exact hb.during hb.lineUpEvent e
  case loopbackTestEnd port fault =>
    change execLoopbackTestEnd port fault s = .next t at e
    unfold execLoopbackTestEnd at e
    refine hb.during ?_ e
    split_ifs
    · cases fault <;> exact hb.meterReceives _
    · exact hb
  case loopbackTestTimeout => exact hb.during hb.testTimesOut e
  case silenceTimerExpiry => exact hb.during hb.silenceExpired e
  case waitTimerExpiry => exact hb.during hb.waitExpired e
  case supplyFailing heldUp =>
    change execSupplyFailing heldUp s = .next t at e
    unfold execSupplyFailing at e
    refine hb.during ?_ e
    exact hb.of_ledger (stopped_ledger s heldUp)
  case resetAsserted =>
    change execResetAsserted s = .next t at e
    unfold execResetAsserted at e
    refine hb.during ?_ e
    exact hb.of_ledger (stopped_ledger s true)
  case startUp =>
    cases e
    split_ifs
    · exact hb.powerUp _ _
    · exact hb
  case restartStartUp => exact hb.during (hb.restartEvent _ _) e
  case reinitStartUp => exact hb.during (hb.restartEvent _ _) e
  case characterReceived => exact h.characterReceived _ _ _ e
  case meterresetBreakEnd => exact hb.during hb.breakEnds e
  all_goals exact h.request rfl e

end

/-- Settles O5: the step carries out one command, and every command keeps the books. -/
theorem accountsBalanceAtEveryStep : Obligations.AccountsBalanceAtEveryStep := by
  intro s t hstep haccounts hstock hlocked
  have hb : s.Books := ⟨haccounts, hstock⟩
  unfold step at hstep
  split at hstep
  · cases hstep
    exact haccounts
  · rename_i c rest _
    have h : ({ s with pending := rest } : State).Lawful := ⟨hb.of_ledger rfl, hlocked⟩
    exact (exec_books h hstep).toAccounts

end Sys2Proof.Machine

/-! SUPPORT. The requests on an Allotment: optional fields and the port field of a request read in its
chain of checks, RECALL (R26), and LEVELS with the outcomes of the low-mark check (R24, R25, R28). -/

namespace Sys2Proof.Machine

/-! ### Optional fields and the port field -/

/-- An optional field that is readable passes with what it reads (R153). -/
theorem optionalNumber_of_readOptional {fs : List Text} {pos most : Nat} {o : Option Nat}
    (h : readOptional most (fieldAt fs pos) = some o) : optionalNumber fs pos most = .ok o := by
  rw [optionalNumber_eq_ok]
  unfold readOptional at h
  split_ifs at h with hempty
  · exact .inl ⟨hempty, (Option.some.inj h).symm⟩
  · obtain ⟨n, hn, ho⟩ := Option.map_eq_some_iff.1 h
    exact .inr ⟨n, hn, ho.symm⟩

/-- A port field names the Port of its number, or is refused RANGE (R155). -/
theorem named_port (n pos : Nat) : named 6 n pos = orRefuse (portOf n) .range pos := by
  unfold named portOf
  split_ifs <;> rfl

section

variable (s : State) (v : HostVerb)

theorem outcome_optionalNumber {fs : List Text} {pos most : Nat} {o : Option Nat}
    (h : readOptional most (fieldAt fs pos) = some o) (k : Option Nat → Answered) :
    s.outcome v (optionalNumber fs pos most >>= k) = s.outcome v (k o) := by
  rw [optionalNumber_of_readOptional h, ok_bind]

/-- A port field out of range refuses the request RANGE at its position (R155). -/
theorem outcome_port_of_none {n : Nat} (h : portOf n = none) (pos : Nat) (k : Port → Answered) :
    s.outcome v (named 6 n pos >>= k) = s.refusal v .range pos := by
  rw [named_port, h]
  rfl

/-- A port field in range passes with its Port (R155). -/
theorem outcome_port_of_some {n : Nat} {p : Port} (h : portOf n = some p) (pos : Nat)
    (k : Port → Answered) : s.outcome v (named 6 n pos >>= k) = s.outcome v (k p) := by
  rw [named_port, h]
  rfl

end

/-! ### RECALL -/

/-- Settles O29: the checks of R26 one after another, and then the state that `State.recalled` and the pass
leave. -/
theorem recallMovesAvailableToPool : Obligations.RecallMovesAvailableToPool := by
  intro s fp fa port given hs hp ha
  rw [exec_request_outcome (v := .recall) rfl hs rfl, perform, recallRequest, outcome_number s _ hp,
    outcome_optionalNumber s _ ha]
  cases hport : portOf port with
  | none => rw [outcome_port_of_none s _ hport]
  | some p =>
    rw [outcome_port_of_some s _ hport, outcome_refuseIf, outcome_refuseIf, outcome_refuseIf]
    rfl

/-! ### The outcomes of the low-mark check -/

namespace State

variable (s : State) (p : Port)

@[simp] theorem draw_pool (n : Nat) : (s.draw p n).ret.pool = s.ret.pool - n := rfl

/-- A draw adds to the Available of its Port alone (R21). -/
@[simp] theorem draw_fundsOf (n : Nat) (q : Port) :
    (s.draw p n).fundsOf q =
      if q = p then { s.fundsOf p with available := (s.fundsOf p).available + n } else s.fundsOf q := by
  simp [draw]

/-- A draw and then a new value of the Short flag, as one exchange between the pool and the Port. -/
theorem setShort_draw (n : Nat) (b : Bool) :
    (s.draw p n).setShort p b = (s.setPool (s.ret.pool - n)).setFunds p
      { s.fundsOf p with available := (s.fundsOf p).available + n, short := b } := by
  simp [setShort, draw]

variable {s p}

theorem markShort_of_short (h : (s.fundsOf p).short = true) (c : ShortCause) (n : Nat) :
    s.markShort p c n = s := if_pos h

theorem markShort_of_not_short (h : (s.fundsOf p).short ≠ true) (c : ShortCause) (n : Nat) :
    s.markShort p c n = ((s.setShort p true).latch p .shortDraw).post
      (.poolshort p c n (s.fundsOf p).available (s.fundsOf p).target s.ret.pool) := if_neg h

/-- With Available at or above the Target the check clears the Short flag (R24). -/
theorem lowMarkCheck_of_target_le (h : (s.fundsOf p).target ≤ (s.fundsOf p).available) :
    s.lowMarkCheck p = s.setShort p false := if_pos h

/-- Between the Low Mark and the Target the check does nothing (R24). -/
theorem lowMarkCheck_of_lowMark_le (hlow : (s.fundsOf p).lowMark ≤ (s.fundsOf p).available)
    (ht : (s.fundsOf p).available < (s.fundsOf p).target) : s.lowMarkCheck p = s := by
  rw [lowMarkCheck, if_neg ht.not_ge, if_pos hlow]

section

variable (hlow : (s.fundsOf p).available < (s.fundsOf p).lowMark)
  (ht : (s.fundsOf p).available < (s.fundsOf p).target)

include hlow ht

/-- Below the Low Mark a waiting Run keeps the check from drawing (R24, R25). -/
theorem lowMarkCheck_of_queued (hq : s.ret.queue ≠ []) : s.lowMarkCheck p = s.markShort p .queued 0 := by
  rw [lowMarkCheck, if_neg ht.not_ge, if_neg hlow.not_ge, if_pos hq]

/-- Below the Low Mark a pool that covers the Want gives it (R24). -/
theorem lowMarkCheck_of_want_le (hq : s.ret.queue = []) (hw : s.want p ≤ s.ret.pool) :
    s.lowMarkCheck p = (s.draw p (s.want p)).setShort p false := by
  rw [lowMarkCheck, if_neg ht.not_ge, if_neg hlow.not_ge, if_neg (not_not_intro hq), if_pos hw]

/-- Below the Low Mark a pool that does not cover the Want gives all it holds (R24, R25). -/
theorem lowMarkCheck_of_pool_lt_want (hq : s.ret.queue = []) (hw : s.ret.pool < s.want p) :
    s.lowMarkCheck p = (s.draw p s.ret.pool).markShort p .pool s.ret.pool := by
  rw [lowMarkCheck, if_neg ht.not_ge, if_neg hlow.not_ge, if_neg (not_not_intro hq), if_neg hw.not_ge]

end

/-- A Port left short by a draw of the whole pool: its Notice is posted only when the Short flag was clear
before (R25). -/
theorem markShort_draw_pool (s : State) (p : Port) :
    let drawn := (s.setPool 0).setFunds p
      { s.fundsOf p with available := (s.fundsOf p).available + s.ret.pool, short := true }
    (s.draw p s.ret.pool).markShort p .pool s.ret.pool =
      if (s.fundsOf p).short then drawn
      else (drawn.latch p .shortDraw).post (.poolshort p .pool s.ret.pool
        ((s.fundsOf p).available + s.ret.pool) (s.fundsOf p).target 0) := by
  intro drawn
  have hdrawn : (s.draw p s.ret.pool).setShort p true = drawn := by
    rw [setShort_draw, Nat.sub_self]
  have hshort : ((s.draw p s.ret.pool).fundsOf p).short = (s.fundsOf p).short := by simp
  by_cases h : (s.fundsOf p).short = true
  · have hs := hshort.trans h
    rw [if_pos h, markShort_of_short hs, ← hdrawn, setShort, ← hs, setFunds_fundsOf_self]
  · rw [if_neg h, markShort_of_not_short (hshort ▸ h), hdrawn]
    simp only [draw_fundsOf, if_true, draw_pool, Nat.sub_self]

end State

/-! ### LEVELS -/

/-- A level is clamped from above alone (R28). -/
theorem clamp_level (n : Nat) : clamp 0 levelMax n = min n 9999999 := by
  rw [clamp, Nat.zero_max, levelMax, Nat.min_comm]

/-- The reply with the first of two fields adjusted, if any (R154). -/
theorem settled_firstAdjusted_pair (v : HostVerb) (i j : Nat) (a b : Prop) [Decidable a] [Decidable b]
    (figures : List Figure) :
    settled v (firstAdjusted [(i, decide a), (j, decide b)]) figures =
      if a then .adj v i figures else if b then .adj v j figures else .ok v figures := by
  by_cases ha : a
  · simp [firstAdjusted, settled, ha]
  · by_cases hb : b <;> simp [firstAdjusted, settled, ha, hb]

/-- Settles O30: the fields of R28 one after another and the state that `levelsRequest` leaves; and then each
outcome of the low-mark check it calls (R24, R25). -/
theorem levelsStoredAndChecked : Obligations.LevelsStoredAndChecked := by
  constructor
  · intro s fp fl ft port low? target? hs hp hl ht
    rw [exec_request_outcome (v := .levels) rfl hs rfl, perform, levelsRequest, outcome_number s _ hp,
      outcome_optionalNumber s _ hl, outcome_optionalNumber s _ ht]
    cases hport : portOf port with
    | none => rw [outcome_port_of_none s _ hport]
    | some p =>
      rw [outcome_port_of_some s _ hport]
      simp only [pure_eq_ok, outcome_ok, clamp_level, settled_firstAdjusted_pair, Figure.flag]
  · intro s p f wanted
    refine ⟨State.lowMarkCheck_of_target_le, State.lowMarkCheck_of_lowMark_le, ?queued, ?covered, ?short⟩
    case queued =>
      intro hlow ht hq
      exact State.lowMarkCheck_of_queued hlow ht hq
    case covered =>
      intro hlow ht hq hw
      exact (State.lowMarkCheck_of_want_le hlow ht hq hw).trans (s.setShort_draw p wanted false)
    case short =>
      intro hlow ht hq hw
      exact (State.lowMarkCheck_of_pool_lt_want hlow ht hq hw).trans (s.markShort_draw_pool p)

end Sys2Proof.Machine

/-! SUPPORT. The Charge Unit: EDITION, CLEARNEXT and ACTIVATE (R39, R40, R42, R43), and the band lookup of
the Charge Computation (R46). -/

namespace Sys2Proof.Machine

/-! ### EDITION, CLEARNEXT and ACTIVATE -/

/-- A number field that fails its form refuses the request FORMAT at its position (R153). -/
theorem outcome_number_of_none (s : State) (v : HostVerb) {fs : List Text} {pos most : Nat}
    (h : readNumber most (fieldAt fs pos) = none) (k : Nat → Answered) :
    s.outcome v (number fs pos most >>= k) = s.refusal v .format pos := by
  rw [number_of_none h, error_bind]
  rfl

/-- Every entry of a table satisfies what each entry of its list does. -/
theorem forall_mem_toList_iff {α : Type} {n : Nat} (v : Vector α n) (P : α → Prop) :
    (∀ a ∈ v.toList, P a) ↔ ∀ i, P (v.get i) := by
  simp only [Vector.mem_toList_iff, Vector.forall_mem_iff_forall_getElem, Vector.get_eq_getElem,
    Fin.forall_iff]

/-- A table holds no band exactly when every band slot of every class is empty (R42). -/
theorem RateTable.hasBand_eq_false_iff (t : RateTable) :
    t.hasBand = false ↔ ∀ c k, (t.bands.get c).get k = none := by
  simp only [RateTable.hasBand, List.any_eq_false, Bool.not_eq_true, Option.isSome_eq_false_iff,
    Option.isNone_iff_eq_none, forall_mem_toList_iff]

/-- Settles O35: the checks of R39 and of R42 one after another, and then the states that `editionRequest`,
`clearnextRequest` and `State.activated` leave. -/
theorem nextNumberedClearedActivated : Obligations.NextNumberedClearedActivated := by
  refine ⟨?edition, ?clearnext, ?activate⟩
  case edition =>
    intro s f hs
    rw [exec_request_outcome (v := .edition) rfl hs rfl, perform, editionRequest]
    cases hn : readNumber 5 f with
    | none => rw [outcome_number_of_none s _ hn]
    | some n =>
      rw [outcome_number s _ hn, outcome_refuseIf, outcome_refuseIf]
      rfl
  case clearnext =>
    intro s hs
    rw [exec_request_outcome (v := .clearnext) rfl hs rfl]
    rfl
  case activate =>
    intro s f n hs hn
    rw [exec_request_outcome (v := .activate) rfl hs rfl, perform, activateRequest, outcome_number s _ hn,
      outcome_refuseIf, outcome_refuseIf]
    by_cases hm : n = s.ret.next.edition
    · subst hm
      simp only [ne_eq, not_true, if_false, outcome_refuseIf, RateTable.hasBand_eq_false_iff]
      rfl
    · rw [if_pos hm, if_pos hm]
      rfl

/-! ### The least entry of a list -/

/-- No entry is taken of the empty list alone. -/
theorem firstLeast_eq_none_iff {α : Type} (key : α → Nat) (l : List α) :
    firstLeast key l = none ↔ l = [] := by
  cases l with
  | nil => simp [firstLeast]
  | cons a l =>
    simp only [firstLeast]
    cases firstLeast key l with
    | none => simp
    | some b => by_cases h : key b < key a <;> simp [h]

/-- Among entries in the order of their slots, the one taken has the least key, and ties go to the lowest
slot. -/
theorem firstLeast_le {α : Type} (key : Nat × α → Nat) {l : List (Nat × α)}
    (hl : l.Pairwise fun a b => a.1 < b.1) {e : Nat × α} (h : firstLeast key l = some e) :
    e ∈ l ∧ ∀ d ∈ l, key e < key d ∨ key e = key d ∧ e.1 ≤ d.1 := by
  induction l generalizing e with
  | nil => simp [firstLeast] at h
  | cons a l ih =>
    obtain ⟨ha, hl⟩ := List.pairwise_cons.1 hl
    simp only [firstLeast] at h
    cases hr : firstLeast key l with
    | none =>
      obtain rfl := (firstLeast_eq_none_iff key l).1 hr
      simp only [hr, Option.some.injEq] at h
      simp [h]
    | some b =>
      obtain ⟨hb, hmin⟩ := ih hl hr
      simp only [hr] at h
      split_ifs at h with hlt
      · obtain rfl := Option.some.inj h
        exact ⟨List.mem_cons_of_mem a hb, List.forall_mem_cons.2 ⟨.inl hlt, hmin⟩⟩
      · obtain rfl := Option.some.inj h
        refine ⟨List.mem_cons_self, List.forall_mem_cons.2 ⟨.inr ⟨rfl, le_rfl⟩, fun d hd => ?_⟩⟩
        have := hmin d hd
        have := ha d hd
        omega

/-- Some entry is taken of a list with any entry. -/
theorem exists_firstLeast {α : Type} (key : α → Nat) {l : List α} {a : α} (h : a ∈ l) :
    ∃ e, firstLeast key l = some e :=
  Option.ne_none_iff_exists'.1 fun hn => List.ne_nil_of_mem h ((firstLeast_eq_none_iff key l).1 hn)

/-- The present entries of a table stand in the order of their slots. -/
theorem pairwise_presentSlots {α : Type} {n : Nat} (v : Vector (Option α) n) :
    (presentSlots v).Pairwise fun a b => a.1 < b.1 := by
  have h : v.toList.zipIdx.Pairwise fun a b => a.2 < b.2 := by
    rw [← List.pairwise_map, List.zipIdx_map_snd]
    exact List.pairwise_lt_range'
  refine List.Pairwise.filterMap _ (fun a b hab x hx y hy => ?_) h
  obtain ⟨_, _, rfl⟩ := Option.map_eq_some_iff.1 hx
  obtain ⟨_, _, rfl⟩ := Option.map_eq_some_iff.1 hy
  exact Nat.succ_lt_succ hab

/-- The bands of a class stand in the order of their slots (R46). -/
theorem RateTable.pairwise_classBands (t : RateTable) (c : Nat) :
    (t.classBands c).Pairwise fun a b => a.1 < b.1 := by
  unfold classBands
  split_ifs
  · exact pairwise_presentSlots _
  · exact .nil

/-! ### The band lookup -/

section

variable {bands : List (Nat × Band)} {w : Nat}

/-- A class with no band (R46). -/
theorem bandLookup_nil (h : bands = []) : bandLookup bands w = .error .noclass := by
  rw [bandLookup, if_pos h]

/-- A weight below every band or above every band (R46). -/
theorem bandLookup_noband (hne : bands ≠ [])
    (h : (∀ e ∈ bands, w < e.2.lower) ∨ (∀ e ∈ bands, e.2.upper < w)) :
    bandLookup bands w = .error .noband := by
  rw [bandLookup, if_neg hne, if_pos]
  simpa using h

/-- A weight at or above some band and at or below some band is judged NOBAND by neither test (R46). -/
theorem not_all_outside (hlow : ∃ e ∈ bands, e.2.lower ≤ w) (hup : ∃ e ∈ bands, w ≤ e.2.upper) :
    ¬(bands.all (fun e => w < e.2.lower) || bands.all (fun e => e.2.upper < w)) = true := by
  simpa using And.intro hlow hup

/-- A weight in some band: the containing band with the smallest upper weight (R46). -/
theorem bandLookup_containing (hs : bands.Pairwise fun a b => a.1 < b.1)
    (h : ∃ e ∈ bands, e.2.lower ≤ w ∧ w ≤ e.2.upper) :
    ∃ e ∈ bands, bandLookup bands w = .ok e ∧ e.2.lower ≤ w ∧ w ≤ e.2.upper ∧
      ∀ d ∈ bands, d.2.lower ≤ w → w ≤ d.2.upper →
        e.2.upper < d.2.upper ∨ (e.2.upper = d.2.upper ∧ e.1 ≤ d.1) := by
  obtain ⟨a, ha, hla, hua⟩ := h
  obtain ⟨e, he⟩ := exists_firstLeast (fun e => e.2.upper)
    (l := bands.filter fun e => e.2.lower ≤ w && w ≤ e.2.upper) (a := a) (by simp [ha, hla, hua])
  obtain ⟨hmem, hmin⟩ := firstLeast_le _ (hs.filter _) he
  simp only [List.mem_filter, Bool.and_eq_true, decide_eq_true_eq, and_imp] at hmem hmin
  obtain ⟨heb, hle, hue⟩ := hmem
  refine ⟨e, heb, ?_, hle, hue, hmin⟩
  rw [bandLookup, if_neg (List.ne_nil_of_mem ha), if_neg (not_all_outside ⟨a, ha, hla⟩ ⟨a, ha, hua⟩), he]

/-- A weight in a gap: the band above with the smallest lower weight (R46). -/
theorem bandLookup_gap (hs : bands.Pairwise fun a b => a.1 < b.1)
    (hgap : ∀ e ∈ bands, ¬(e.2.lower ≤ w ∧ w ≤ e.2.upper)) (hlow : ∃ e ∈ bands, e.2.lower ≤ w)
    (hup : ∃ e ∈ bands, w ≤ e.2.upper) :
    ∃ e ∈ bands, bandLookup bands w = .ok e ∧ w < e.2.lower ∧
      ∀ d ∈ bands, w < d.2.lower →
        e.2.lower < d.2.lower ∨ (e.2.lower = d.2.lower ∧ e.1 ≤ d.1) := by
  have hnone : (bands.filter fun e => e.2.lower ≤ w && w ≤ e.2.upper) = [] := by
    simpa [List.filter_eq_nil_iff] using hgap
  have ⟨a, ha, hua⟩ := hup
  have hla : w < a.2.lower := Nat.lt_of_not_le fun hle => hgap a ha ⟨hle, hua⟩
  obtain ⟨e, he⟩ := exists_firstLeast (fun e => e.2.lower)
    (l := bands.filter fun e => w < e.2.lower) (a := a) (by simp [ha, hla])
  obtain ⟨hmem, hmin⟩ := firstLeast_le _ (hs.filter _) he
  simp only [List.mem_filter, decide_eq_true_eq, and_imp] at hmem hmin
  obtain ⟨heb, hwe⟩ := hmem
  refine ⟨e, heb, ?_, hwe, hmin⟩
  rw [bandLookup, if_neg (List.ne_nil_of_mem ha), if_neg (not_all_outside hlow hup), hnone, firstLeast, he]

end

/-- Settles O36: one clause of R46 after another, for the bands of a class stand in the order of their
slots. -/
theorem bandLookupTakesNarrowestBand : Obligations.BandLookupTakesNarrowestBand := by
  intro t c w
  have hs := t.pairwise_classBands c
  exact ⟨bandLookup_nil, bandLookup_noband, bandLookup_containing hs, bandLookup_gap hs⟩

end Sys2Proof.Machine

/-! SUPPORT. The stock requests that change a Stock Line: the fields of a stock request read in its chain of
checks (R87), LINE (R88, R89), RECEIVE (R90), SELL and RETURN (R92, R93) and COUNT (R95 to R98). -/

namespace Sys2Proof.Machine

/-! ### The fields of a stock request -/

/-- A form spelt in full is read back (R87). -/
@[simp] theorem readForm_text (form : StockForm) : readForm form.text = some form := by
  cases form <;> decide

/-- A state that a LINE may give, spelt in full, is read back (R87). -/
theorem readStockState_text {state : StockState} (h : state ≠ .undefinedLine) :
    readStockState state.text = some state := by
  cases state with
  | undefinedLine => exact absurd rfl h
  | onSale => decide
  | retired => decide

theorem StockForm.text_ne_nil (form : StockForm) : form.text ≠ [] := by cases form <;> decide

theorem StockState.text_ne_nil (state : StockState) : state.text ≠ [] := by cases state <;> decide

section

variable (s : State) (v : HostVerb)

/-- A line field in range is passed with its Stock Line (R87). -/
theorem outcome_lineField {fl : Text} {fs : List Text} {i : Fin 24}
    (h : readNumber 2 fl = some (i.val + 1)) (k : Fin 24 → Answered) :
    s.outcome v (lineField (fl :: fs) >>= k) = s.outcome v (k i) := by
  have hline : lineField (fl :: fs) = .ok i := by
    rw [lineField, (number_eq_ok (fl :: fs) 1 2 _).2 h, ok_bind, (named_eq_ok 24 _ 1 i).2 rfl]
  rw [hline, ok_bind]

/-- A pieces field that is readable is refused RANGE outside 1 to 9999, and is otherwise passed (R87). -/
theorem outcome_piecesField {fl fp : Text} {fs : List Text} {pieces : Nat}
    (h : readNumber 5 fp = some pieces) (k : Nat → Answered) :
    s.outcome v (piecesField (fl :: fp :: fs) >>= k) =
      if pieces < 1 ∨ 9999 < pieces then s.refusal v .range 2 else s.outcome v (k pieces) := by
  rw [piecesField, bind_assoc, outcome_number s v h, bind_assoc, outcome_refuseIf]
  rfl

end

/-! ### RECEIVE, SELL and RETURN -/

/-- Settles O44: the checks of R90 one after another, and then the state that `receiveRequest` leaves. -/
theorem receivePaysFromPool : Obligations.ReceivePaysFromPool := by
  intro s fl fp i pieces hs hl hp
  rw [exec_request_outcome (v := .receive) rfl hs rfl, perform, receiveRequest, outcome_lineField s _ hl,
    outcome_piecesField s _ hp, outcome_refuseIf, outcome_refuseIf, outcome_refuseIf, outcome_refuseIf]
  rfl

/-- Settles O45: the checks of R92 and of R93 one after another, and then the states that `sellRequest` and
`State.returned` with the pass leave. -/
theorem stockSoldOrReturned : Obligations.StockSoldOrReturned := by
  intro s fl fp i pieces hs hl hp
  constructor
  · rw [exec_request_outcome (v := .sell) rfl hs rfl, perform, sellRequest, outcome_lineField s _ hl,
      outcome_piecesField s _ hp, outcome_refuseIf, outcome_refuseIf, outcome_refuseIf]
    rfl
  · rw [exec_request_outcome (v := .returnStock) rfl hs rfl, perform, returnRequest,
      outcome_lineField s _ hl, outcome_piecesField s _ hp, outcome_refuseIf, outcome_refuseIf,
      outcome_refuseIf]
    rfl

/-! ### LINE -/

/-- Settles O43: the fields of R88 one after another, the change of denomination that R89 refuses, and then
the line that `lineRequest` stores. -/
theorem lineDefined : Obligations.LineDefined := by
  intro s fl fd i denomination form state hs hstate hl hd
  have hf : wordField readForm [fl, fd, form.text, state.text] 3 = .ok form :=
    (wordField_eq_ok _ _ _ _).2 ⟨form.text_ne_nil, readForm_text form⟩
  have hst : wordField readStockState [fl, fd, form.text, state.text] 4 = .ok state :=
    (wordField_eq_ok _ _ _ _).2 ⟨state.text_ne_nil, readStockState_text hstate⟩
  rw [exec_request_outcome (v := .line) rfl hs rfl, perform, lineRequest, outcome_lineField s _ hl,
    outcome_number s _ hd, outcome_refuseIf, hf, ok_bind, hst, ok_bind, outcome_refuseIf]
  simp only [Option.any_eq_true, decide_eq_true_eq]
  rfl

/-! ### COUNT -/

section

variable {book n : Nat}

theorem countOutcome_of_eq (h : n = book) : countOutcome book n = .equal := if_pos h

theorem countOutcome_of_lt (h : n < book) : countOutcome book n = .short := by
  rw [countOutcome, if_neg h.ne, if_pos h]

theorem countOutcome_of_gt (h : book < n) : countOutcome book n = .over := by
  rw [countOutcome, if_neg h.ne', if_neg h.not_gt]

end

section

variable {l : StockLine} {n : Nat}

/-- The value of a shortage (R95). -/
theorem countValue_of_lt (h : n < l.onHand) : countValue l n = (l.onHand - n) * l.unit := by
  rw [countValue, if_pos h]

/-- The value of a surplus (R95). -/
theorem countValue_of_gt (h : l.onHand < n) : countValue l n = (n - l.onHand) * l.unit := by
  rw [countValue, if_neg h.not_gt]

end

/-- Settles O46: the checks of R95 and R96 one after another, and then the count below the book, which
settles Shortage Total, the count that agrees with it, and the count above it, which settles Surplus Total. -/
theorem countSettlesBook : Obligations.CountSettlesBook := by
  intro s fl fc i counted hs hl hc
  rw [exec_request_outcome (v := .count) rfl hs rfl, perform, countRequest, outcome_lineField s _ hl,
    outcome_number s _ hc, outcome_refuseIf, outcome_refuseIf, outcome_refuseIf, outcome_refuseIf]
  refine if_congr Iff.rfl rfl (if_congr Iff.rfl rfl ?_)
  obtain hlt | heq | hgt := lt_trichotomy counted (s.stockLine i).onHand
  · simp only [State.counted, countOutcome_of_lt hlt, countValue_of_lt hlt, if_neg hlt.ne, if_pos hlt,
      true_and, reduceCtorEq, false_and, if_false]
    rfl
  · simp only [countOutcome_of_eq heq, if_pos heq, reduceCtorEq, false_and, if_false, if_true]
    rfl
  · simp only [State.counted, countOutcome_of_gt hgt, countValue_of_gt hgt, if_neg hgt.ne',
      if_neg hgt.not_gt, true_and, reduceCtorEq, false_and, if_false]
    rfl

end Sys2Proof.Machine

/-! SUPPORT. A law that every step keeps, read event by event (chapters 4 to 7): what a law must stand so that
every event of a meter line and of a Run timer keeps it. -/

namespace Sys2Proof.Machine

open State

/-- The laws that the events of the meter lines and of the Run timers keep, by the operations those events are
made of. A Meter Line Unit is stored with no more frames queued than before or than a queue holds. -/
structure MeterKept (P : State → Prop) : Prop where
  post : ∀ s n, P s → P (s.post n)
  record : ∀ s p r, r.state = (s.record p).state → r.profile = (s.record p).profile → P s →
    P (s.setRecord p r)
  mlu : ∀ s p m, m.inputs.length ≤ (s.mlu p).inputs.length ∨ m.inputs.length ≤ Config.inputMax →
    m.lineUp = (s.mlu p).lineUp → P s → P (s.setMlu p m)
  marking : ∀ s p b, P s → P (s.setMarking p b)
  compose : ∀ s p f, P s → P (s.compose p f)
  route : ∀ s p f, (s.record p).state.attached = true → P s → P (route p f s).1
  closeHeld : ∀ s p r final reason, s.runOf p = some r → r.state ≠ .waiting → P s →
    P (s.closeUnasked p final reason)
  closeWaiting : ∀ s p r final reason, s.runOf p = some r → r.state = .waiting → P s →
    P (s.closeUnasked p final reason).pass
  reset : ∀ s p cause, (s.record p).state.attached = true → P s → P (s.takeMeterReset p cause)
  down : ∀ s p, (s.record p).state.attached = true → P s → P (s.takeLineDown p)
  loopLine : ∀ s p b, (s.record p).state = .loopback → P s →
    P (s.setMlu p { s.mlu p with lineUp := b })
  up : ∀ s p, (s.record p).state = .absent → P s →
    P ((s.setMlu p { s.mlu p with lineUp := true, rx := .ready }).setRecord p
      { s.record p with state := .unannounced })

/-! ### The Meter Line Unit keeps its line-up flag, and its queue within bounds -/

section

variable (m : Mlu)

theorem Mlu.goDue_inputs : m.goDue.inputs = m.inputs := by unfold goDue; split <;> rfl
theorem Mlu.goDue_lineUp : m.goDue.lineUp = m.lineUp := by unfold goDue; split <;> rfl

theorem Mlu.takeOff_inputs : m.takeOff.inputs = m.inputs.drop 1 := by
  unfold takeOff
  split
  · exact Mlu.goDue_inputs _
  · rfl

theorem Mlu.takeOff_lineUp : m.takeOff.lineUp = m.lineUp := by
  unfold takeOff
  split
  · exact Mlu.goDue_lineUp _
  · rfl

theorem Mlu.join_inputs (f : Frame) : (m.join f).inputs = m.inputs ++ [f] := by
  unfold join; split <;> rfl

theorem Mlu.join_lineUp (f : Frame) : (m.join f).lineUp = m.lineUp := by unfold join; split <;> rfl

theorem Mlu.obeys_inputs (f : Flow) : (m.obeys f).inputs = m.inputs := by cases f <;> rfl

theorem Mlu.obeys_lineUp (f : Flow) : (m.obeys f).lineUp = m.lineUp := by cases f <;> rfl

end

namespace MeterKept

variable {P : State → Prop} (k : MeterKept P) {s : State} {p : Port}

include k

/-- A Meter Line Unit stored with the queue and the flag it had. -/
theorem mluQuiet {m : Mlu} (hi : m.inputs = (s.mlu p).inputs) (hl : m.lineUp = (s.mlu p).lineUp)
    (h : P s) : P (s.setMlu p m) :=
  k.mlu s p m (.inl (by rw [hi])) hl h

theorem latch (c : Condition) (h : P s) : P (s.latch p c) := k.record s p _ rfl rfl h

theorem latchLineError (r : FaultReason) (h : P s) : P (s.latchLineError p r) :=
  k.record _ p _ rfl rfl (k.latch _ h)

theorem sendUnasked (f : MeterFrame) (h : P s) : P (s.sendUnasked p f) := by
  unfold State.sendUnasked
  split_ifs
  · exact k.compose s p f h
  · exact k.mluQuiet rfl rfl h

/-! ### Frames of a meter (R132, R137, R141) -/

theorem composeOwed (h : P s) : P (s.composeOwed p) := by
  unfold State.composeOwed
  split
  · split_ifs
    · exact k.compose _ p _ (k.mluQuiet rfl rfl h)
    · exact h
  · exact h

theorem takeHead (h : P s) : P (s.takeHead p) := by
  unfold State.takeHead
  split
  · rename_i f rest hinputs
    split_ifs with hfree
    · simp only [Bool.and_eq_true] at hfree
      exact k.compose _ p _ (k.route _ p f hfree.2
        (k.mlu s p _ (.inl (by rw [Mlu.takeOff_inputs]; simp)) (Mlu.takeOff_lineUp _) h))
    · exact h
  · exact h

theorem useSlot (h : P s) : P (s.useSlot p) := k.takeHead (k.takeHead (k.composeOwed h))

theorem frameArrives (f : Frame) (h : P s) : P (s.frameArrives p f) := by
  unfold State.frameArrives
  dsimp only
  split_ifs with _ hroom
  · exact k.useSlot (k.mlu s p _ (.inr (by rw [Mlu.join_inputs]; simpa using hroom)) (Mlu.join_lineUp _ f) h)
  · exact k.mlu s p _ (.inr (by rw [Mlu.join_inputs]; simpa using hroom)) (Mlu.join_lineUp _ f) h
  · exact k.latch .overrun h
  · exact h

theorem endTest (r : LoopResult) (h : P s) : P (s.endTest p r) := by
  unfold State.endTest
  split_ifs
  · exact k.record _ p _ rfl rfl (k.mluQuiet rfl rfl h)
  · exact h

theorem frameEnds (t : Termination) (h : P s) : P (s.frameEnds p t) := by
  unfold State.frameEnds
  split_ifs <;> cases t
  · exact k.endTest _ h
  · exact k.endTest _ h
  · exact k.frameArrives _ h
  · exact k.latchLineError _ h

theorem meterReceives (step : Receiver → Receiver × Option Termination) (h : P s) :
    P (s.meterReceives p step) := by
  have hrx : P (s.setMlu p { s.mlu p with rx := (step (s.mlu p).rx).1 }) := k.mluQuiet rfl rfl h
  unfold State.meterReceives
  dsimp only
  split_ifs
  · split
    · exact k.frameEnds _ hrx
    · exact hrx
  · exact h

/-! ### The transmitter and the timers of a line (R126, R139 to R146) -/

theorem meterSlotFrees (h : P s) : P (s.meterSlotFrees p) := by
  have hfree : P (s.setMlu p (Mlu.beginNext { s.mlu p with
      slots := (s.mlu p).slots.release, sending := false, flowWaiting := false })) :=
    k.mluQuiet rfl rfl h
  unfold State.meterSlotFrees
  dsimp only
  split_ifs
  · exact k.useSlot hfree
  · exact k.mluQuiet rfl rfl hfree
  · exact h

theorem meterFlow (f : Flow) (h : P s) : P (s.meterFlow p f) := by
  unfold State.meterFlow
  split_ifs
  · exact h
  · exact k.mluQuiet (Mlu.obeys_inputs _ f) (Mlu.obeys_lineUp _ f) (k.meterReceives _ h)

theorem meterHears (c : Chr) (e : CharError) (h : P s) : P (s.meterHears p c e) := by
  unfold State.meterHears
  split_ifs
  · exact k.meterReceives _ (k.mluQuiet rfl rfl h)
  · exact k.meterReceives _ h
  · exact h

theorem breakEnds (h : P s) : P (s.breakEnds p) := by
  unfold State.breakEnds
  split_ifs
  · exact k.mluQuiet rfl rfl h
  · exact h

theorem meterIdleGap (h : P s) : P (s.meterIdleGap p) := by
  unfold State.meterIdleGap
  split_ifs
  · exact k.mluQuiet rfl rfl h
  · exact h

theorem testTimesOut (h : P s) : P (s.testTimesOut p) := by
  unfold State.testTimesOut
  split_ifs
  · exact k.endTest _ h
  · exact h

theorem startTest (t : Text) (h : P s) : P (s.startTest p t) :=
  k.mluQuiet rfl rfl (k.mluQuiet rfl rfl (k.record s p _ rfl rfl h))

/-! ### The line events and the Run timers (R78, R79, R117 to R120, R133) -/

theorem detectBreak (h : P s) : P (s.detectBreak p) := by
  unfold State.detectBreak
  dsimp only
  split
  · exact k.mluQuiet rfl rfl (k.latchLineError _ h)
  · exact k.mluQuiet rfl rfl h

theorem breakEvent (h : P s) : P (s.breakEvent p) := by
  unfold State.breakEvent
  split_ifs
  · exact k.marking _ p _ (k.detectBreak h)
  · exact h

theorem meterResetEvent (h : P s) : P (s.meterResetEvent p) := by
  unfold State.meterResetEvent
  split_ifs with ha
  · exact k.marking _ p _ (k.reset s p _ ha h)
  · exact h

theorem lineDownEvent (h : P s) : P (s.lineDownEvent p) := by
  unfold State.lineDownEvent
  split_ifs with _ hl ha
  · exact h
  · exact k.marking _ p _ (k.record _ p _ rfl rfl (k.loopLine s p false hl h))
  · exact k.marking _ p _ (k.down s p ha h)
  · exact h

theorem lineUpEvent (h : P s) : P (s.lineUpEvent p) := by
  unfold State.lineUpEvent
  split_ifs with _ hl ha
  · exact h
  · exact k.marking _ p _ (k.loopLine s p true hl h)
  · exact k.marking _ p _ (k.up s p ha h)
  · exact h

theorem silenceExpired (h : P s) : P (s.silenceExpired p) := by
  unfold State.silenceExpired
  split
  · rename_i r hr
    split_ifs with hw
    · exact h
    · exact k.closeHeld _ p r _ _ hr hw (k.latch _ h)
  · exact h

theorem waitExpired (h : P s) : P (s.waitExpired p) := by
  unfold State.waitExpired
  split
  · rename_i r hr
    split_ifs with hw
    · exact k.closeWaiting _ p r _ _ (by simpa using hr) hw (k.post s _ h)
    · exact h
  · exact h

end MeterKept

/-! ### Laws kept by every update that an event of a meter line is made of -/

/-- The levels and limits of a Port Funds Record (R17). -/
structure Levels where
  lowMark : Nat
  target : Nat
  runLimit : Nat
  silenceLimit : Nat
  waitLimit : Nat

/-- The levels and limits of a record, which requests of the host alone store (R28, R29). -/
def PortFunds.levels (f : PortFunds) : Levels :=
  ⟨f.lowMark, f.target, f.runLimit, f.silenceLimit, f.waitLimit⟩

/-- The laws that stand every single update of an event of a meter line or of a Run timer: no such update
raises the Credit Pool or stores a level. -/
structure Steady (P : State → Prop) : Prop where
  post : ∀ s n, P s → P (s.post n)
  record : ∀ s p r, P s → P (s.setRecord p r)
  mlu : ∀ s p m, m.inputs.length ≤ (s.mlu p).inputs.length ∨ m.inputs.length ≤ Config.inputMax →
    P s → P (s.setMlu p m)
  marking : ∀ s p b, P s → P (s.setMarking p b)
  funds : ∀ s p f, f.levels = (s.fundsOf p).levels → P s → P (s.setFunds p f)
  run : ∀ s p r, P s → P (s.setRun p r)
  runId : ∀ s p n, P s → P (s.setRunId p n)
  queue : ∀ s l, P s → P (s.setQueue l)
  serial : ∀ (s : State) (p : Port) t, P s →
    P { s with ret := { s.ret with serials := s.ret.serials.set p t } }
  pool : ∀ s n, n ≤ s.ret.pool → P s → P (s.setPool n)

namespace Steady

variable {P : State → Prop} (k : Steady P) {s : State} {p : Port}

include k

theorem mluQuiet {m : Mlu} (hi : m.inputs = (s.mlu p).inputs) (h : P s) : P (s.setMlu p m) :=
  k.mlu s p m (.inl (by rw [hi])) h

theorem latch (c : Condition) (h : P s) : P (s.latch p c) := k.record s p _ h

theorem latchIf (b : Bool) (c : Condition) (h : P s) : P (s.latchIf b p c) := by
  cases b
  · exact h
  · exact k.latch c h

theorem draw (n : Nat) (h : P s) : P (s.draw p n) :=
  k.funds _ p _ rfl (k.pool s _ (Nat.sub_le _ _) h)

theorem setShort (b : Bool) (h : P s) : P (s.setShort p b) := k.funds s p _ rfl h

theorem markShort (c : ShortCause) (n : Nat) (h : P s) : P (s.markShort p c n) := by
  unfold State.markShort
  split_ifs
  · exact h
  · exact k.post _ _ (k.latch _ (k.setShort _ h))

theorem lowMarkCheck (h : P s) : P (s.lowMarkCheck p) := by
  unfold State.lowMarkCheck
  split_ifs
  · exact k.setShort _ h
  · exact h
  · exact k.markShort _ _ h
  · exact k.setShort _ (k.draw _ h)
  · exact k.markShort _ _ (k.draw _ h)

theorem reserve (n : Nat) (h : P s) : P (s.reserve p n) := k.funds _ p _ rfl (k.draw _ h)

theorem restartSilence (h : P s) : P (s.restartSilence p) := by
  unfold State.restartSilence
  split
  · exact k.run s p _ h
  · exact h

theorem debit (b : Nat) (h : P s) : P (s.debit p b) := by
  unfold State.debit
  split
  · exact k.funds _ p _ rfl (k.run s p _ h)
  · exact h

theorem compose (f : MeterFrame) (h : P s) : P (s.compose p f) := by
  have hput : ∀ g, P (s.putFrame p g) := fun g => k.mluQuiet rfl h
  cases f with
  | runok id edition charge b => exact k.restartSilence (k.debit b (hput _))
  | grant id b => exact k.restartSilence (k.debit b (hput _))
  | halt id => exact k.restartSilence (hput _)
  | accept | refuse | badreq | wait | ack | norun | runend | echo => exact hput _

theorem sendUnasked (f : MeterFrame) (h : P s) : P (s.sendUnasked p f) := by
  unfold State.sendUnasked
  split_ifs
  · exact k.compose f h
  · exact k.mluQuiet rfl h

theorem returnReserved (h : P s) : P (s.returnReserved p) := k.funds s p _ rfl h

theorem removeRun (h : P s) : P (s.removeRun p) := k.queue _ _ (k.run s p _ h)

theorem closeSilently (r : Run) (reason : RunReason) (h : P s) : P (s.closeSilently p r reason) :=
  k.post _ _ (k.removeRun (k.returnReserved h))

theorem closeUnasked (r : Run) (reason : RunReason) (h : P s) : P (s.closeUnasked p r reason) :=
  k.post _ _ (k.sendUnasked _ (k.removeRun (k.returnReserved h)))

theorem serveHead (r : Run) (h : P s) : P (s.serveHead p r) :=
  k.sendUnasked _ (k.lowMarkCheck (k.run _ p _ (k.queue _ _ (k.reserve _ h))))

theorem topUp (h : P s) : P (s.topUp p) := by
  unfold State.topUp
  split_ifs
  · exact k.setShort _ h
  · exact k.setShort _ (k.draw _ h)
  · exact h

theorem pass (h : P s) : P s.pass :=
  pass_keeps s (fun _ _ r ht _ _ _ => k.serveHead r ht) (fun _ _ _ ht => k.topUp ht) h

theorem closeAtLine (reason : RunReason) (h : P s) : P (s.closeAtLine p reason) := by
  unfold State.closeAtLine
  split
  · split_ifs
    · exact k.pass (k.closeSilently _ _ h)
    · exact k.closeSilently _ _ h
  · exact h

/-! ### Records of a meter (R60 to R72, R108 to R112) -/

theorem giveBasic (h : P s) : P (s.giveBasic p) := by
  unfold State.giveBasic
  split_ifs
  · exact k.record s p _ h
  · exact k.latch _ (k.record s p _ h)
  · exact h

theorem admitActive (r : Run) (h : P s) : P (s.admitActive p r).1 :=
  k.lowMarkCheck (k.reserve _ (k.run _ p _ (k.runId s p _ h)))

theorem admitWaiting (r : Run) (h : P s) : P (s.admitWaiting p r).1 :=
  k.post _ _ (k.queue _ _ (k.run _ p _ (k.runId s p _ h)))

theorem admitRun (profile : Profile) (c w : Nat) (letters : Text) (n : Nat) (h : P s) :
    P (s.admitRun p profile c w letters n).1 := by
  unfold State.admitRun
  split_ifs
  · exact h
  · split
    · exact h
    · dsimp only
      split_ifs
      · exact k.admitActive _ h
      · exact k.admitWaiting _ h

theorem takeRun (fs : List Text) (h : P s) : P (takeRun p fs s).1 := by
  unfold Machine.takeRun
  split
  · exact h
  · split_ifs
    · exact h
    · exact h
    · dsimp only
      split
      · exact k.giveBasic h
      · exact k.admitRun _ _ _ _ _ (k.giveBasic h)

theorem countReport (r : Run) (a b : Nat) (h : P s) : P (s.countReport p r a b) :=
  k.latchIf _ _ (k.funds _ p _ rfl (k.run s p _ h))

theorem answerDone (r : Run) (h : P s) : P (s.answerDone p r).1 := by
  unfold State.answerDone
  split_ifs
  · exact h
  · exact h
  · exact k.closeSilently _ _ h
  · exact k.closeSilently _ _ h
  · exact h
  · exact k.closeSilently _ _ h

theorem takeDone (fs : List Text) (h : P s) : P (takeDone p fs s).1 := by
  unfold Machine.takeDone
  split
  · exact h
  · split
    · exact h
    · split_ifs
      · exact h
      · exact k.answerDone _ (k.restartSilence (k.countReport _ _ _ h))

theorem takeStop (fs : List Text) (h : P s) : P (takeStop p fs s).1 := by
  unfold Machine.takeStop
  split
  · exact h
  · split
    · exact h
    · split_ifs
      · exact h
      · exact k.pass (k.closeSilently _ _ (k.latchIf _ _ h))
      · exact k.closeSilently _ _ (k.funds _ p _ rfl (k.countReport _ _ _ h))
      · exact k.closeSilently _ _ (k.funds _ p _ rfl (k.countReport _ _ _ h))

theorem recordSerial (t : Text) (h : P s) : P (s.recordSerial p t) := by
  unfold State.recordSerial
  dsimp only
  split_ifs
  · exact k.serial _ p _ (k.post _ _ (k.latch _ h))
  · exact k.serial s p _ h

theorem takeAnnounce (fs : List Text) (h : P s) : P (takeAnnounce p fs s).1 := by
  unfold Machine.takeAnnounce
  split
  · exact h
  · split_ifs
    · exact h
    · exact h
    · exact h
    · unfold State.attach
      dsimp only
      split_ifs <;> exact k.post _ _ (k.record _ p _ (k.recordSerial _ h))

theorem route (f : Frame) (h : P s) : P (route p f s).1 := by
  unfold Machine.route
  split_ifs
  · exact k.takeAnnounce _ h
  · exact h
  · exact k.takeRun _ h
  · exact h
  · exact k.takeDone _ h
  · exact h
  · exact k.takeStop _ h
  · exact h

/-! ### Line events (R117, R118, R134) -/

theorem detectBreak (h : P s) : P (s.detectBreak p) := by
  unfold State.detectBreak
  dsimp only
  split
  · exact k.mluQuiet rfl (k.record _ p _ (k.latch _ h))
  · exact k.mluQuiet rfl h

theorem takeMeterReset (cause : ResetCause) (h : P s) : P (s.takeMeterReset p cause) :=
  k.post _ _ (k.latch _ (k.closeAtLine _ (k.record _ p _
    (k.mlu _ p _ (.inl (Nat.zero_le _)) (k.detectBreak h)))))

theorem takeLineDown (h : P s) : P (s.takeLineDown p) :=
  k.post _ _ (k.closeAtLine _ (k.record _ p _ (k.mlu _ p _ (.inl (Nat.zero_le _)) (k.detectBreak h))))

/-- A law that stands every update is kept by every event of a meter line. -/
theorem meterKept : MeterKept P where
  post := k.post
  record := fun s p r _ _ => k.record s p r
  mlu := fun s p m hi _ => k.mlu s p m hi
  marking := k.marking
  compose := fun _ _ f h => k.compose f h
  route := fun _ _ f _ h => k.route f h
  closeHeld := fun _ _ _ _ _ _ _ h => k.closeUnasked _ _ h
  closeWaiting := fun _ _ _ _ _ _ _ h => k.pass (k.closeUnasked _ _ h)
  reset := fun _ _ _ _ h => k.takeMeterReset _ h
  down := fun _ _ _ h => k.takeLineDown h
  loopLine := fun _ _ _ _ h => k.mluQuiet rfl h
  up := fun _ _ _ h => k.record _ _ _ (k.mluQuiet rfl h)

end Steady

end Sys2Proof.Machine

/-! SUPPORT. What an accepted request of the host leaves: one case for each change a block makes, with what
its checks have established (chapters 1 to 6, 8 and 9). -/

namespace Sys2Proof.Machine

open State

/-- An Order's number that passes R4: the one after the last, which was not the largest. -/
def State.NextOrder (s : State) (order : Nat) : Prop :=
  s.ret.lastOrder ≠ Config.orderNumberMax ∧ order = s.ret.lastOrder + 1

/-- A level limit that keeps its range: the one that stood, or one clamped into the range (R17, R29). -/
def Stays (lo hi old new : Nat) : Prop := new = old ∨ lo ≤ new ∧ new ≤ hi

/-- The states that an accepted request leaves. -/
inductive State.Accepts (s : State) : State → Prop
  | same : Accepts s s
  | refilled (order amount : Nat) (ho : s.NextOrder order)
      (hp : s.ret.pool + amount ≤ Config.balanceMax)
      (hc : s.ret.credited + amount ≤ Config.lifetimeMax) : Accepts s (s.refilled order amount).pass
  | withdrawn (order amount : Nat) (ho : s.NextOrder order)
      (hw : s.ret.withdrawn + amount ≤ Config.lifetimeMax) : Accepts s (s.withdrawn order amount)
  | spoilRefunded (order : Nat) (p : Port) (pieces amount : Nat) (ho : s.NextOrder order)
      (hp : s.ret.pool + amount ≤ Config.balanceMax)
      (hc : s.ret.credited + amount ≤ Config.lifetimeMax) :
      Accepts s (s.spoilRefunded order p pieces amount).pass
  | recalled (p : Port) (amount : Nat) (hp : s.ret.pool + amount ≤ Config.balanceMax) :
      Accepts s (s.recalled p amount).pass
  | levels (p : Port) (low target : Nat) (ho : low ≤ target) (ht : target ≤ levelMax) :
      Accepts s ((s.setFunds p { s.fundsOf p with lowMark := low, target := target }).lowMarkCheck p)
  | limits (p : Port) (run silence wait : Nat)
      (hr : Stays 1 Config.balanceMax (s.fundsOf p).runLimit run)
      (hs : Stays 5 300 (s.fundsOf p).silenceLimit silence)
      (hw : Stays 10 600 (s.fundsOf p).waitLimit wait) :
      Accepts s (s.setFunds p
        { s.fundsOf p with runLimit := run, silenceLimit := silence, waitLimit := wait })
  | next (t : RateTable) (hs : s.ret.next.Sound → t.Sound)
      (he : t.edition = s.ret.next.edition ∨ t.edition = 0 ∨ t.edition ≠ s.ret.current.edition) :
      Accepts s (s.setNext t)
  | activated (he : s.ret.next.edition ≠ 0) (hb : s.ret.next.hasBand = true) : Accepts s s.activated
  | closeWaiting (p : Port) (r : Run) (hr : s.runOf p = some r) (hw : r.state = .waiting) :
      Accepts s (s.closeUnasked p r .cancelled).pass
  | closeOwed (p : Port) (r : Run) (hr : s.runOf p = some r) (hw : r.state ≠ .waiting) :
      Accepts s (s.closeUnasked p r .cancelled)
  | cancelling (p : Port) (r : Run) (hr : s.runOf p = some r) (hw : r.state ≠ .waiting) :
      Accepts s (s.setRun p (some r.toCancelling))
  | halted (p : Port) (r : Run) (hr : s.runOf p = some r) (hw : r.state ≠ .waiting) :
      Accepts s ((s.setRun p (some r.toCancelling)).sendUnasked p (.halt r.id))
  | stock (i : Fin 24) (l : StockLine) (hl : (s.stockLine i).Sound → l.Sound) :
      Accepts s (s.setStockLine i l)
  | received (i : Fin 24) (l : StockLine) (value : Nat) (hl : (s.stockLine i).Sound → l.Sound) :
      Accepts s ((s.setPool (s.ret.pool - value)).setStockLine i l)
  | returned (i : Fin 24) (pieces : Nat)
      (hl : (s.stockLine i).Sound →
        ({ s.stockLine i with onHand := (s.stockLine i).onHand - pieces } : StockLine).Sound)
      (hp : s.ret.pool + pieces * (s.stockLine i).unit ≤ Config.balanceMax) :
      Accepts s (s.returned i pieces).pass
  | counted (i : Fin 24) (n : Nat)
      (hl : (s.stockLine i).Sound → ({ s.stockLine i with onHand := n } : StockLine).Sound)
      (hshort : n < (s.stockLine i).onHand →
        s.ret.shortage + countValue (s.stockLine i) n ≤ Config.lifetimeMax)
      (hover : (s.stockLine i).onHand < n →
        s.ret.surplus + countValue (s.stockLine i) n ≤ Config.lifetimeMax)
      (hne : n ≠ (s.stockLine i).onHand) : Accepts s (s.counted i n)
  | offer (o : Offer) (hm : Stays 1 9999 s.ret.offer.maxRun o.maxRun)
      (hb : Stays 1 25 s.ret.offer.block o.block) : Accepts s (s.setOffer o)
  | suspended (p : Port) (b : Bool) : Accepts s (s.setSuspended p b)
  | suspendWaiting (p : Port) (r : Run) (hr : s.runOf p = some r) (hw : r.state = .waiting) :
      Accepts s ((s.setSuspended p true).closeUnasked p r .suspended).pass
  | record (p : Port) (r : PortRecord) (hs : r.state = (s.record p).state)
      (hp : r.profile = (s.record p).profile) : Accepts s (s.setRecord p r)
  | meterreset (p : Port) (ha : (s.record p).state.attached = true) :
      Accepts s ((s.takeMeterReset p .command).setMlu p
        { (s.takeMeterReset p .command).mlu p with drivingBreak := true })
  | loopedOn (p : Port) (hr : s.runOf p = none) : Accepts s (s.loopedOn p)
  | loopedOff (p : Port) (hl : (s.record p).state = .loopback) : Accepts s (s.loopedOff p)
  | startTest (p : Port) (text : Text) : Accepts s (s.startTest p text)
  | notices (k : Nat) : Accepts s { s with notices := s.notices.drop k, lost := false }
  | host (h : HostUnit) (hh : h.hold = s.host.hold) : Accepts s (s.setHost h)
  | reinit (h : HostUnit) (hh : h.hold = s.host.hold) (hl : s.lockMark = true) :
      Accepts s (s.reinitialised.setHost h)

/-! ### Orders and Allotments (chapters 1 and 2) -/

theorem nextOrder_of_check {s : State} {order : Nat} {u : Unit}
    (h : checkOrderNumber order s = .ok u) : s.NextOrder order := by
  unfold checkOrderNumber at h
  split_ifs at h with hmax hdup hgap
  · simp [refuse] at h
  · exact ⟨hmax, by omega⟩

theorem stays_clamp {lo hi old : Nat} (h : lo ≤ hi) (given : Option Nat) :
    Stays lo hi old ((given.map (clamp lo hi)).getD old) := by
  cases given with
  | none => exact .inl rfl
  | some n =>
    refine .inr ?_
    simp only [Option.map_some, Option.getD_some, clamp]
    omega

section

variable (fs : List Text) (s : State)

theorem refillRequest_accepts : Leaves (refillRequest fs s) s.Accepts := by
  unfold refillRequest
  refine leaves_bind fun order _ => leaves_bind fun amount _ => leaves_bind fun _ ho =>
    leaves_bind fun _ _ => leaves_bind fun _ hp => leaves_bind fun _ hc => ?_
  rw [refuseIf_eq_ok, Nat.not_lt] at hp hc
  exact leaves_ok (.refilled order amount (nextOrder_of_check ho) hp hc)

theorem withdrawRequest_accepts : Leaves (withdrawRequest fs s) s.Accepts := by
  unfold withdrawRequest
  refine leaves_bind fun order _ => leaves_bind fun amount _ => leaves_bind fun _ ho =>
    leaves_bind fun _ _ => leaves_bind fun _ _ => leaves_bind fun _ _ => leaves_bind fun _ hw => ?_
  rw [refuseIf_eq_ok, Nat.not_lt] at hw
  exact leaves_ok (.withdrawn order amount (nextOrder_of_check ho) hw)

theorem spoilrefRequest_accepts : Leaves (spoilrefRequest fs s) s.Accepts := by
  unfold spoilrefRequest
  refine leaves_bind fun order _ => leaves_bind fun _ _ => leaves_bind fun pieces _ =>
    leaves_bind fun amount _ => leaves_bind fun _ ho => leaves_bind fun p _ => leaves_bind fun _ _ =>
    leaves_bind fun _ _ => leaves_bind fun _ _ => leaves_bind fun _ _ => leaves_bind fun _ hp =>
    leaves_bind fun _ hc => ?_
  rw [refuseIf_eq_ok, Nat.not_lt] at hp hc
  exact leaves_ok (.spoilRefunded order p pieces amount (nextOrder_of_check ho) hp hc)

theorem recallRequest_accepts : Leaves (recallRequest fs s) s.Accepts := by
  unfold recallRequest
  refine leaves_bind fun _ _ => leaves_bind fun _ _ => leaves_bind fun p _ => leaves_bind fun _ _ =>
    leaves_bind fun _ _ => leaves_bind fun _ hp => ?_
  rw [refuseIf_eq_ok, Nat.not_lt] at hp
  exact leaves_ok (.recalled p _ hp)

theorem levelsRequest_accepts : Leaves (levelsRequest fs s) s.Accepts := by
  unfold levelsRequest
  refine leaves_bind fun _ _ => leaves_bind fun _ _ => leaves_bind fun _ _ => leaves_bind fun p _ => ?_
  refine leaves_ok (.levels p _ _ (Nat.le_max_left _ _) ?_)
  simp only [clamp]
  omega

theorem limitsRequest_accepts : Leaves (limitsRequest fs s) s.Accepts := by
  unfold limitsRequest
  refine leaves_bind fun _ _ => leaves_bind fun run? _ => leaves_bind fun silence? _ =>
    leaves_bind fun wait? _ => leaves_bind fun p _ => ?_
  exact leaves_ok (.limits p _ _ _ (stays_clamp (by decide) run?) (stays_clamp (by decide) silence?)
    (stays_clamp (by decide) wait?))

theorem portfundsRequest_accepts : Leaves (portfundsRequest fs s) s.Accepts := by
  unfold portfundsRequest
  repeat' refine leaves_bind fun _ _ => ?_
  exact leaves_ok .same

end

/-! ### Rate Tables (chapter 3) -/

/-- A band slot of a table stored keeps the ranges when the band stored does (R33). -/
theorem RateTable.Sound.setBand {t : RateTable} (h : t.Sound) (c : Fin 8) (k : Fin 10) {b : Option Band}
    (hb : ∀ x, b = some x → x.Sound) :
    ({ t with bands := t.bands.set c ((t.bands.get c).set k b) } : RateTable).Sound where
  edition := h.edition
  surcharges := h.surcharges
  tiers := h.tiers
  bands := by
    intro c' k' x hx
    simp only [get_set] at hx
    split_ifs at hx with hc
    · simp only [get_set] at hx
      split_ifs at hx
      · exact hb x hx
      · exact h.bands c k' x hx
    · exact h.bands c' k' x hx

theorem RateTable.Sound.setSurcharge {t : RateTable} (h : t.Sound) (i : Fin 6) {a : Option Nat}
    (ha : ∀ x, a = some x → x ≤ 99999) :
    ({ t with surcharges := t.surcharges.set i a } : RateTable).Sound where
  edition := h.edition
  bands := h.bands
  tiers := h.tiers
  surcharges := by
    intro j x hx
    simp only [get_set] at hx
    split_ifs at hx
    · exact ha x hx
    · exact h.surcharges j x hx

theorem RateTable.Sound.setTier {t : RateTable} (h : t.Sound) (k : Fin 4) {u : Option Tier}
    (hu : ∀ x, u = some x → x.Sound) : ({ t with tiers := t.tiers.set k u } : RateTable).Sound where
  edition := h.edition
  bands := h.bands
  surcharges := h.surcharges
  tiers := by
    intro j x hx
    simp only [get_set] at hx
    split_ifs at hx
    · exact hu x hx
    · exact h.tiers j x hx

theorem RateTable.empty_sound : RateTable.empty.Sound where
  edition := by decide
  bands := by simp [RateTable.empty, Vector.get_eq_getElem]
  surcharges := by simp [RateTable.empty, Vector.get_eq_getElem]
  tiers := by simp [RateTable.empty, Vector.get_eq_getElem]

section

variable (fs : List Text) (s : State)

theorem bandRequest_accepts : Leaves (bandRequest fs s) s.Accepts := by
  unfold bandRequest
  refine leaves_bind fun _ _ => leaves_bind fun _ _ => leaves_bind fun lower? _ =>
    leaves_bind fun _ _ => leaves_bind fun _ _ => leaves_bind fun c _ => leaves_bind fun k _ => ?_
  cases lower? with
  | none => exact leaves_ok (.next _ (fun h => h.setBand c k nofun) (.inl rfl))
  | some lower =>
    refine leaves_bind fun upper _ => leaves_bind fun rate _ => leaves_bind fun _ hrate => ?_
    rw [refuseIf_eq_ok, Nat.not_lt] at hrate
    refine leaves_ok (.next _ (fun h => h.setBand c k ?_) (.inl rfl))
    rintro _ ⟨⟩
    simp only [Band.Sound, clamp, weightMax]
    omega

theorem surchRequest_accepts : Leaves (surchRequest fs s) s.Accepts := by
  unfold surchRequest
  refine leaves_bind fun _ _ => leaves_bind fun l _ => leaves_bind fun amount? _ =>
    leaves_bind fun _ ha => ?_
  rw [refuseIf_eq_ok] at ha
  refine leaves_ok (.next _ (fun h => h.setSurcharge (Letter.index l) ?_) (.inl rfl))
  rintro a rfl
  simpa using ha

theorem tierRequest_accepts : Leaves (tierRequest fs s) s.Accepts := by
  unfold tierRequest
  refine leaves_bind fun _ _ => leaves_bind fun min? _ => leaves_bind fun _ _ => ?_
  cases min? with
  | none =>
    refine leaves_bind fun k _ => ?_
    exact leaves_ok (.next _ (fun h => h.setTier k nofun) (.inl rfl))
  | some least =>
    refine leaves_bind fun perMille _ => leaves_bind fun k _ => ?_
    refine leaves_ok (.next _ (fun h => h.setTier k ?_) (.inl rfl))
    rintro _ ⟨⟩
    simp only [Tier.Sound, clamp, Config.piecesMax]
    omega

theorem editionRequest_accepts : Leaves (editionRequest fs s) s.Accepts := by
  unfold editionRequest
  refine leaves_bind fun n _ => leaves_bind fun _ hrange => leaves_bind fun _ hsame => ?_
  rw [refuseIf_eq_ok] at hrange hsame
  exact leaves_ok (.next _ (fun h => ⟨by dsimp only; omega, h.bands, h.surcharges, h.tiers⟩)
    (.inr (.inr hsame)))

theorem clearnextRequest_accepts : Leaves (clearnextRequest s) s.Accepts :=
  leaves_ok (.next _ (fun _ => RateTable.empty_sound) (.inr (.inl rfl)))

theorem activateRequest_accepts : Leaves (activateRequest fs s) s.Accepts := by
  unfold activateRequest
  refine leaves_bind fun n _ => leaves_bind fun _ _ => leaves_bind fun _ he => ?_
  rw [refuseIf_eq_ok] at he
  split_ifs
  · exact leaves_error _ _
  · refine leaves_bind fun _ hb => ?_
    rw [refuseIf_eq_ok, Bool.not_eq_false] at hb
    exact leaves_ok (.activated he hb)

theorem quoteRequest_accepts : Leaves (quoteRequest fs s) s.Accepts := by
  unfold quoteRequest
  repeat' refine leaves_bind fun _ _ => ?_
  split
  · exact leaves_bind fun _ _ => leaves_refuse _ _ _
  · repeat' refine leaves_bind fun _ _ => ?_
    split
    · exact leaves_refuse _ _ _
    · exact leaves_ok .same

theorem raterepRequest_accepts : Leaves (raterepRequest fs s) s.Accepts := by
  unfold raterepRequest
  repeat' refine leaves_bind fun _ _ => ?_
  exact leaves_ok .same

/-! ### Runs and stamp stock (chapters 4 and 5) -/

theorem cancelRequest_accepts : Leaves (cancelRequest fs s) s.Accepts := by
  unfold cancelRequest
  refine leaves_bind fun _ _ => leaves_bind fun p _ => leaves_bind fun r hr => leaves_bind fun _ _ => ?_
  rw [orRefuse_eq_ok] at hr
  split_ifs with hw
  · exact leaves_ok (.closeWaiting p r hr hw)
  · exact leaves_ok (.closeOwed p r hr hw)
  · exact leaves_ok (.cancelling p r hr hw)
  · exact leaves_ok (.halted p r hr hw)

theorem lineRequest_accepts : Leaves (lineRequest fs s) s.Accepts := by
  unfold lineRequest
  refine leaves_bind fun i _ => leaves_bind fun d _ => leaves_bind fun _ hrange =>
    leaves_bind fun form _ => leaves_bind fun state hstate => leaves_bind fun _ _ => ?_
  rw [refuseIf_eq_ok] at hrange
  have hdefined := readStockState_ne ((wordField_eq_ok _ _ _ _).1 hstate).2
  exact leaves_ok (.stock i _ fun h => ⟨h.onHand, h.soldPieces, h.soldValue,
    fun _ => ⟨rfl, d, rfl, by omega⟩, fun e => absurd e hdefined⟩)

theorem receiveRequest_accepts : Leaves (receiveRequest fs s) s.Accepts := by
  unfold receiveRequest
  refine leaves_bind fun i _ => leaves_bind fun n _ => leaves_bind fun _ hstate =>
    leaves_bind fun _ _ => leaves_bind fun _ hfull => leaves_bind fun _ _ => ?_
  rw [refuseIf_eq_ok] at hstate hfull
  exact leaves_ok (.received i _ _ fun h => h.book (by simp [not_not.1 hstate]) (by omega) h.soldPieces
    h.soldValue)

theorem sellRequest_accepts : Leaves (sellRequest fs s) s.Accepts := by
  unfold sellRequest
  refine leaves_bind fun i _ => leaves_bind fun n _ => leaves_bind fun _ hstate =>
    leaves_bind fun _ _ => leaves_bind fun _ hfull => ?_
  rw [refuseIf_eq_ok] at hstate hfull
  refine leaves_ok (.stock i _ fun h => h.book hstate ((Nat.sub_le _ _).trans h.onHand) ?_ (by omega))
  have hvalue : n ≤ n * (s.stockLine i).unit := Nat.le_mul_of_pos_right n (h.one_le_unit hstate)
  have hsold := h.soldPieces
  omega

theorem returnRequest_accepts : Leaves (returnRequest fs s) s.Accepts := by
  unfold returnRequest
  refine leaves_bind fun i _ => leaves_bind fun n _ => leaves_bind fun _ hstate =>
    leaves_bind fun _ _ => leaves_bind fun _ hp => ?_
  rw [refuseIf_eq_ok] at hstate hp
  exact leaves_ok (.returned i n (fun h => h.book hstate ((Nat.sub_le _ _).trans h.onHand) h.soldPieces
    h.soldValue) (by omega))

theorem countRequest_accepts : Leaves (countRequest fs s) s.Accepts := by
  unfold countRequest
  refine leaves_bind fun i _ => leaves_bind fun n _ => leaves_bind fun _ hrange =>
    leaves_bind fun _ hstate => leaves_bind fun _ hshort => leaves_bind fun _ hover => ?_
  rw [refuseIf_eq_ok] at hrange hstate hshort hover
  refine leaves_ok ?_
  split_ifs with heq
  · exact .same
  · refine .counted i n (fun h => h.book hstate (Nat.le_of_not_lt hrange) h.soldPieces h.soldValue)
      (fun hlt => ?_) (fun hgt => ?_) fun e => heq (countOutcome_of_eq e)
    · simpa [countOutcome_of_lt hlt] using hshort
    · simpa [countOutcome_of_gt hgt] using hover

theorem stockrepRequest_accepts : Leaves (stockrepRequest fs s) s.Accepts := by
  unfold stockrepRequest
  repeat' refine leaves_bind fun _ _ => ?_
  exact leaves_ok .same

theorem discrepRequest_accepts : Leaves (discrepRequest fs s) s.Accepts := by
  unfold discrepRequest
  repeat' refine leaves_bind fun _ _ => ?_
  exact leaves_ok .same

/-! ### Ports (chapter 6, sections 7.5 and 7.6) -/

theorem offerRequest_accepts : Leaves (offerRequest fs s) s.Accepts := by
  unfold offerRequest
  refine leaves_bind fun _ _ => leaves_bind fun _ _ => leaves_bind fun max? _ =>
    leaves_bind fun block? _ => ?_
  exact leaves_ok (.offer _ (stays_clamp (by decide) max?) (stays_clamp (by decide) block?))

theorem suspendRequest_accepts : Leaves (suspendRequest fs s) s.Accepts := by
  unfold suspendRequest
  refine leaves_bind fun _ _ => leaves_bind fun p _ => leaves_bind fun _ _ => ?_
  dsimp only
  split
  · rename_i r hr
    obtain ⟨hr, hw⟩ := Option.filter_eq_some_iff.1 hr
    exact leaves_ok (.suspendWaiting p r hr (by simpa using hw))
  · exact leaves_ok (.suspended p true)

theorem resumeRequest_accepts : Leaves (resumeRequest fs s) s.Accepts := by
  unfold resumeRequest
  refine leaves_bind fun _ _ => leaves_bind fun p _ => leaves_bind fun _ _ => ?_
  exact leaves_ok (.suspended p false)

theorem portrepRequest_accepts : Leaves (portrepRequest fs s) s.Accepts := by
  unfold portrepRequest
  refine leaves_bind fun _ _ => leaves_bind fun p _ => ?_
  exact leaves_ok (.record p _ rfl rfl)

theorem meterresetRequest_accepts : Leaves (meterresetRequest fs s) s.Accepts := by
  unfold meterresetRequest
  refine leaves_bind fun _ _ => leaves_bind fun p _ => leaves_bind fun _ _ => ?_
  split_ifs with ha
  · exact leaves_ok (.meterreset p ha)
  · exact leaves_ok .same

theorem loopRequest_accepts : Leaves (loopRequest fs s) s.Accepts := by
  unfold loopRequest
  refine leaves_bind fun _ _ => leaves_bind fun on _ => leaves_bind fun p _ => ?_
  split_ifs
  · refine leaves_bind fun _ _ => leaves_bind fun _ hr => ?_
    rw [refuseIf_eq_ok] at hr
    exact leaves_ok (.loopedOn p (by simpa using hr))
  · refine leaves_bind fun _ hl => ?_
    rw [refuseIf_eq_ok, not_not] at hl
    exact leaves_ok (.loopedOff p hl)

theorem linetestRequest_accepts : Leaves (linetestRequest fs s) s.Accepts := by
  unfold linetestRequest
  refine leaves_bind fun _ _ => leaves_bind fun _ _ => leaves_bind fun p _ => leaves_bind fun _ _ =>
    leaves_bind fun _ _ => leaves_bind fun _ _ => ?_
  exact leaves_ok (.startTest p _)

theorem reinitRequest_accepts : Leaves (reinitRequest s) s.Accepts := by
  unfold reinitRequest
  refine leaves_bind fun _ hl => ?_
  rw [refuseIf_eq_ok, Bool.not_eq_false] at hl
  exact leaves_ok (.reinit _ rfl hl)

end

/-- What a request leaves is one of the changes of its block (R152, the table). -/
theorem perform_accepts (v : HostVerb) (fs : List Text) (s : State) :
    Leaves (perform v fs s) s.Accepts := by
  cases v
  case refill => exact refillRequest_accepts fs s
  case withdraw => exact withdrawRequest_accepts fs s
  case spoilref => exact spoilrefRequest_accepts fs s
  case levels => exact levelsRequest_accepts fs s
  case limits => exact limitsRequest_accepts fs s
  case funds => exact leaves_ok .same
  case portfunds => exact portfundsRequest_accepts fs s
  case band => exact bandRequest_accepts fs s
  case quote => exact quoteRequest_accepts fs s
  case surch => exact surchRequest_accepts fs s
  case raterep => exact raterepRequest_accepts fs s
  case tier => exact tierRequest_accepts fs s
  case edition => exact editionRequest_accepts fs s
  case activate => exact activateRequest_accepts fs s
  case clearnext => exact clearnextRequest_accepts s
  case cancel => exact cancelRequest_accepts fs s
  case line => exact lineRequest_accepts fs s
  case receive => exact receiveRequest_accepts fs s
  case sell => exact sellRequest_accepts fs s
  case returnStock => exact returnRequest_accepts fs s
  case count => exact countRequest_accepts fs s
  case stockrep => exact stockrepRequest_accepts fs s
  case discrep => exact discrepRequest_accepts fs s
  case offer => exact offerRequest_accepts fs s
  case suspend => exact suspendRequest_accepts fs s
  case resume => exact resumeRequest_accepts fs s
  case portrep => exact portrepRequest_accepts fs s
  case meterreset => exact meterresetRequest_accepts fs s
  case loop => exact loopRequest_accepts fs s
  case linetest => exact linetestRequest_accepts fs s
  case notices => exact leaves_ok (.notices _)
  case status => exact leaves_ok (.host _ rfl)
  case restart => exact leaves_ok (.host _ rfl)
  case reinit => exact reinitRequest_accepts s
  -- RECALL is left: its constructor's name is a keyword of Lean, which `case` does not take
  exact recallRequest_accepts fs s

end Sys2Proof.Machine

/-! SUPPORT. The laws that every command keeps: the Host Line Unit, power and the step (chapters 8 to 10). -/

namespace Sys2Proof.Machine

open State

/-- The laws that every command keeps, but for the lock that a start-up may put on the contents. -/
structure Kept (P : State → Prop) : Prop extends MeterKept P where
  host : ∀ s h, h.hold.length ≤ s.host.hold.length ∨ h.hold.length ≤ Config.holdMax → P s →
    P (s.setHost h)
  perform : ∀ s v fs, (s.lockMark && !v.servedLocked) = false → P s → Leaves (perform v fs s) P
  start : ∀ (s : State) c pins n, P s → P (({ s with sampled := n } : State).startFrom c pins)
  stop : ∀ (s : State) heldUp a b, P s → P { s.stopped heldUp with pfail := a, resetIn := b }

namespace Kept

variable {P : State → Prop} (k : Kept P) {s : State}

include k

/-! ### Requests (R148, R149, R152) -/

/-- The Host Line Unit stored with the requests it held. -/
theorem hostQuiet {h : HostUnit} (hh : h.hold = s.host.hold) (hs : P s) : P (s.setHost h) :=
  k.host s h (.inl (by rw [hh])) hs

theorem answerRequest (f : Frame) (h : P s) : P (answerRequest f s).1 := by
  unfold Machine.answerRequest
  split
  · exact h
  · split_ifs with hserved
    · exact h
    · exact h
    · split
      · exact h
      · rename_i r hr
        exact k.perform s _ f.fields (by simpa using hserved) h r.1 r.2 hr

theorem takeRequest (f : Frame) (h : P s) : P (s.takeRequest f) := k.hostQuiet rfl (k.answerRequest f h)

theorem takeHeld (fuel : Nat) : ∀ {s : State}, P s → P (takeHeld fuel s) := by
  induction fuel with
  | zero => exact fun h => h
  | succ fuel ih =>
    intro s h
    unfold State.takeHeld
    split
    · exact h
    · rename_i f rest hhold
      split_ifs
      · exact ih (k.takeRequest f (k.host s _ (.inl (by simp [hhold])) h))
      · exact h

theorem requestArrives (f : Frame) (h : P s) : P (s.requestArrives f) := by
  unfold State.requestArrives
  split_ifs with hroom
  · exact k.takeHeld _ (k.host s _ (.inr (by simpa using hroom)) h)
  · exact k.hostQuiet rfl h

theorem hostFault (r : FaultReason) (h : P s) : P (s.hostFault r) := by
  unfold State.hostFault
  dsimp only
  split_ifs
  · exact k.hostQuiet rfl (k.hostQuiet rfl h)
  · exact k.hostQuiet rfl h

theorem hostReceives (step : Receiver → Receiver × Option Termination) (h : P s) :
    P (s.hostReceives step) := by
  have hrx : P (s.setHost { s.host with rx := (step s.host.rx).1 }) := k.hostQuiet rfl h
  unfold State.hostReceives
  dsimp only
  split
  · exact k.requestArrives _ hrx
  · exact k.hostFault _ hrx
  · exact hrx

/-! ### The transmitter of the host line, and restarts (R149, R151, R158, R159) -/

theorem startFrom (c : Cause) (pins : Pins) (h : P s) : P (s.startFrom c pins) :=
  k.start s c pins s.sampled h

theorem restartNow (h : P s) : P s.restartNow := by
  unfold State.restartNow
  split
  · exact k.start s _ _ _ h
  · exact h

theorem hostSlotFrees (h : P s) : P s.hostSlotFrees := by
  unfold State.hostSlotFrees
  split
  · exact h
  · split_ifs
    · exact k.restartNow h
    · exact k.takeHeld _ (k.hostQuiet rfl h)

theorem hostBreaks (begun : Bool) (h : P s) : P (s.hostBreaks begun) := by
  have hbroken : ∀ u : HostUnit, u.hold = [] → P (s.setHost u) := fun u hu =>
    k.host s u (.inl (by simp [hu])) h
  unfold State.hostBreaks
  dsimp only
  split_ifs
  · exact k.restartNow (hbroken _ rfl)
  · exact hbroken _ rfl

theorem restartEvent (c : Cause) (pins : Pins) (h : P s) : P (s.restartEvent c pins) := by
  unfold State.restartEvent
  split_ifs
  · exact k.startFrom _ _ h
  · exact h

/-! ### The step -/

theorem powerUp (pins : Pins) (failed : Bool) (h : P s) (hl : P s.lockContents) :
    P (s.powerUp pins failed) := by
  unfold State.powerUp
  split_ifs
  · exact k.startFrom _ _ h
  · exact k.startFrom _ _ hl

omit k in
theorem during {f : State → State} (h : P s) (hf : P (f s)) {t : State} (e : s.during f = .next t) :
    P t := by
  unfold State.during at e
  cases e
  split_ifs
  · exact hf
  · exact h

theorem request {i : Instr} {v : HostVerb} {fs : List Text} (hi : hostRequest i = some (v, fs))
    (h : P s) {t : State} (e : exec i s = .next t) : P t := by
  rw [exec_of_hostRequest hi] at e
  exact during h (k.requestArrives _ h) e

theorem characterReceived (line : Line) (c : Chr) (e : CharError) (h : P s) {t : State}
    (hstep : exec (.characterReceived line c e) s = .next t) : P t := by
  change execCharacterReceived line c e s = .next t at hstep
  unfold execCharacterReceived at hstep
  refine during h ?_ hstep
  split
  · exact k.hostReceives _ h
  · exact k.meterFlow _ h
  · exact k.hostReceives _ h
  · exact k.meterHears _ _ h

theorem receives (line : Line) (step : Receiver → Receiver × Option Termination) (h : P s) :
    P (s.receives line step) := by
  cases line
  · exact k.hostReceives _ h
  · exact k.meterReceives _ h

/-- A law kept by every event and every request holds after every command, where a start-up that locks the
contents leaves it. -/
theorem exec {i : Instr} {t : State} (h : P s)
    (hl : ∀ pins failed, i = .startUp pins failed → P s.lockContents) (e : exec i s = .next t) :
    P t := by
  cases i
  case hostUnknownVerb => exact during h (k.requestArrives _ h) e
  case hostFrameComplete => exact during h (k.hostReceives _ h) e
  case hostFrameError reason =>
    change execHostFrameError reason s = .next t at e
    unfold execHostFrameError at e
    refine during h ?_ e
    split_ifs
    · exact h
    · exact k.hostReceives _ h
  case hostBreak => exact during h (k.hostBreaks _ h) e
  case hostSlotFree => exact during h (k.hostSlotFrees h) e
  case hostFlowCharacter => exact during h (k.hostReceives _ h) e
  case idleGapElapsed line =>
    change execIdleGapElapsed line s = .next t at e
    unfold execIdleGapElapsed at e
    refine during h ?_ e
    cases line
    · exact k.hostQuiet rfl h
    · exact k.meterIdleGap h
  case intercharacterLimitExpiry line => exact during h (k.receives line _ h) e
  case messageLimitExpiry line => exact during h (k.receives line _ h) e
  case meterFrameComplete => exact during h (k.meterReceives _ h) e
  case meterFrameError => exact during h (k.meterReceives _ h) e
  case meterSlotFree => exact during h (k.meterSlotFrees h) e
  case hold => exact during h (k.meterFlow _ h) e
  case go => exact during h (k.meterFlow _ h) e
  case announce => exact during h (k.frameArrives _ h) e
  case run => exact during h (k.frameArrives _ h) e
  case done => exact during h (k.frameArrives _ h) e
  case stop => exact during h (k.frameArrives _ h) e
  case meterUnknownVerb => exact during h (k.frameArrives _ h) e
  case breakDetected => exact during h (k.breakEvent h) e
  case meterReset => exact during h (k.meterResetEvent h) e
  case lineDown => exact during h (k.lineDownEvent h) e
  case lineUp => exact during h (k.lineUpEvent h) e
  case loopbackTestEnd port fault =>
    change execLoopbackTestEnd port fault s = .next t at e
    unfold execLoopbackTestEnd at e
    refine during h ?_ e
    split_ifs
    · cases fault <;> exact k.meterReceives _ h
    · exact h
  case loopbackTestTimeout => exact during h (k.testTimesOut h) e
  case silenceTimerExpiry => exact during h (k.silenceExpired h) e
  case waitTimerExpiry => exact during h (k.waitExpired h) e
  case supplyFailing heldUp =>
    change execSupplyFailing heldUp s = .next t at e
    unfold execSupplyFailing at e
    exact during h (k.stop s heldUp true _ h) e
  case resetAsserted =>
    change execResetAsserted s = .next t at e
    unfold execResetAsserted at e
    exact during h (k.stop s true _ true h) e
  case startUp pins failed =>
    cases e
    split_ifs
    · exact k.powerUp _ _ h (hl pins failed rfl)
    · exact h
  case restartStartUp => exact during h (k.restartEvent _ _ h) e
  case reinitStartUp => exact during h (k.restartEvent _ _ h) e
  case characterReceived => exact k.characterReceived _ _ _ h e
  case meterresetBreakEnd => exact during h (k.breakEnds h) e
  all_goals exact k.request rfl h e

/-- A law that every command keeps, and that the queue of commands and a lock put on the contents do not
touch, holds after every step. -/
theorem step {s t : State} (e : step s = .next t) (h : P s)
    (hq : ∀ l, P { s with pending := l })
    (hl : ∀ l, P ({ s with pending := l } : State).lockContents) : P t := by
  unfold Machine.step at e
  split at e
  · cases e
    exact h
  · exact k.exec (hq _) (fun _ _ _ => hl _) e

end Kept

end Sys2Proof.Machine

/-! SUPPORT. The figures of the branch, the Rate Tables, the levels and the stock: only requests of the host
and a start-up that locks the contents change them, and each change keeps their ranges (O8 to O11, O14). -/

namespace Sys2Proof.Machine

open State

/-! ### What only a request of the host changes -/

/-- The lifetime totals and the Last Order Number (R2, R3). -/
structure Figures where
  credited : Nat
  withdrawn : Nat
  surplus : Nat
  shortage : Nat
  lastOrder : Nat

/-- The retained contents that no event of a meter line or of a Run timer changes, with the lock mark. -/
structure Branch where
  figures : Figures
  tables : RateTable × RateTable
  levels : Port → Levels
  stock : Vector StockLine 24
  log : List Discrepancy × Nat
  lockMark : Bool

/-- The branch of a state. -/
def State.branch (s : State) : Branch where
  figures := ⟨s.ret.credited, s.ret.withdrawn, s.ret.surplus, s.ret.shortage, s.ret.lastOrder⟩
  tables := (s.ret.current, s.ret.next)
  levels := fun p => (s.fundsOf p).levels
  stock := s.ret.stock
  log := (s.ret.log, s.ret.logCount)
  lockMark := s.lockMark

namespace State

variable (s : State) (p : Port)

@[simp] theorem post_branch (n : Notice) : (s.post n).branch = s.branch := by
  unfold post; split <;> rfl
@[simp] theorem setRecord_branch (r : PortRecord) : (s.setRecord p r).branch = s.branch := rfl
@[simp] theorem setMlu_branch (m : Mlu) : (s.setMlu p m).branch = s.branch := rfl
@[simp] theorem setRun_branch (r : Option Run) : (s.setRun p r).branch = s.branch := rfl
@[simp] theorem setPool_branch (n : Nat) : (s.setPool n).branch = s.branch := rfl
@[simp] theorem setOffer_branch (o : Offer) : (s.setOffer o).branch = s.branch := rfl
@[simp] theorem setSuspended_branch (b : Bool) : (s.setSuspended p b).branch = s.branch := rfl
@[simp] theorem setHost_branch (h : HostUnit) : (s.setHost h).branch = s.branch := rfl

/-- Funds stored change the levels of their Port alone. -/
theorem setFunds_branch (f : PortFunds) : (s.setFunds p f).branch =
    { s.branch with levels := fun q => if q = p then f.levels else (s.fundsOf q).levels } := by
  simp only [branch, setFunds_fundsOf, apply_ite PortFunds.levels]
  rfl

/-- Funds stored with the levels they had leave the branch alone. -/
theorem setFunds_branch_of_levels {f : PortFunds} (h : f.levels = (s.fundsOf p).levels) :
    (s.setFunds p f).branch = s.branch := by
  rw [setFunds_branch]
  have e : (fun q => if q = p then f.levels else (s.fundsOf q).levels) = s.branch.levels := by
    funext q
    split_ifs with hq
    · rw [hq, h]; rfl
    · rfl
  rw [e]

end State

/-- A law that reads the branch, and that a smaller Credit Pool keeps, stands every update of an event. -/
theorem Steady.of_branch {P : State → Prop}
    (hP : ∀ s t : State, t.branch = s.branch → t.ret.pool ≤ s.ret.pool → P s → P t) : Steady P where
  post := fun s n => hP s _ (post_branch s n) (by simp)
  record := fun s _ _ => hP s _ rfl le_rfl
  mlu := fun s _ _ _ => hP s _ rfl le_rfl
  marking := fun s _ _ => hP s _ rfl le_rfl
  funds := fun s p _ h => hP s _ (setFunds_branch_of_levels s p h) le_rfl
  run := fun s _ _ => hP s _ rfl le_rfl
  runId := fun s _ _ => hP s _ rfl le_rfl
  queue := fun s _ => hP s _ rfl le_rfl
  serial := fun s _ _ => hP s _ rfl le_rfl
  pool := fun s _ h => hP s _ rfl h

/-- An event leaves the branch as it was, and the Credit Pool no larger. -/
theorem steady_frame (s : State) :
    Steady fun t => t.branch = s.branch ∧ t.ret.pool ≤ s.ret.pool :=
  .of_branch fun _ _ hb hp h => ⟨hb.trans h.1, hp.trans h.2⟩

namespace State

variable (s : State) (p : Port)

/-- The pool-increase pass leaves the branch alone and draws on the pool (R9 to R11). -/
@[simp] theorem pass_branch : s.pass.branch = s.branch := ((steady_frame s).pass ⟨rfl, le_rfl⟩).1

theorem pass_pool_le : s.pass.ret.pool ≤ s.ret.pool := ((steady_frame s).pass ⟨rfl, le_rfl⟩).2

@[simp] theorem lowMarkCheck_branch : (s.lowMarkCheck p).branch = s.branch :=
  ((steady_frame s).lowMarkCheck ⟨rfl, le_rfl⟩).1

theorem lowMarkCheck_pool_le : (s.lowMarkCheck p).ret.pool ≤ s.ret.pool :=
  ((steady_frame s).lowMarkCheck ⟨rfl, le_rfl⟩).2

@[simp] theorem sendUnasked_branch (f : MeterFrame) : (s.sendUnasked p f).branch = s.branch :=
  ((steady_frame s).sendUnasked f ⟨rfl, le_rfl⟩).1

theorem sendUnasked_pool_le (f : MeterFrame) : (s.sendUnasked p f).ret.pool ≤ s.ret.pool :=
  ((steady_frame s).sendUnasked f ⟨rfl, le_rfl⟩).2

@[simp] theorem closeUnasked_branch (r : Run) (reason : RunReason) :
    (s.closeUnasked p r reason).branch = s.branch :=
  ((steady_frame s).closeUnasked r reason ⟨rfl, le_rfl⟩).1

theorem closeUnasked_pool_le (r : Run) (reason : RunReason) :
    (s.closeUnasked p r reason).ret.pool ≤ s.ret.pool :=
  ((steady_frame s).closeUnasked r reason ⟨rfl, le_rfl⟩).2

@[simp] theorem takeMeterReset_branch (c : ResetCause) : (s.takeMeterReset p c).branch = s.branch :=
  ((steady_frame s).takeMeterReset c ⟨rfl, le_rfl⟩).1

theorem takeMeterReset_pool_le (c : ResetCause) : (s.takeMeterReset p c).ret.pool ≤ s.ret.pool :=
  ((steady_frame s).takeMeterReset c ⟨rfl, le_rfl⟩).2

end State

/-! ### What each accepted request leaves of the branch -/

/-- A start-up leaves the branch alone (R83, R170). -/
theorem startFrom_branch (s : State) (c : Cause) (pins : Pins) : (s.startFrom c pins).branch = s.branch := by
  have e : ∀ p, ((s.startFrom c pins).fundsOf p).levels = (s.fundsOf p).levels := by
    intro p
    rw [fundsOf, show (s.startFrom c pins).ret = s.ret.restarted from rfl, restarted_funds]
    split_ifs <;> rfl
  simp only [branch, e]
  rfl

/-- A request that leaves the branch alone and takes the pool no higher, but for those of an Order, of a
RECALL, of the levels, of the tables, of the stock, and for REINIT. -/
inductive BranchChange (s : State) : State → Prop
  | none (t : State) (hb : t.branch = s.branch) (hp : t.ret.pool ≤ s.ret.pool) : BranchChange s t
  | credited (t : State) (order amount : Nat) (ho : s.NextOrder order)
      (hp : s.ret.pool + amount ≤ Config.balanceMax) (hc : s.ret.credited + amount ≤ Config.lifetimeMax)
      (hpool : t.ret.pool ≤ s.ret.pool + amount)
      (hb : t.branch = { s.branch with figures := { s.branch.figures with
        credited := s.ret.credited + amount, lastOrder := order } }) : BranchChange s t
  | withdrawn (t : State) (order amount : Nat) (ho : s.NextOrder order)
      (hw : s.ret.withdrawn + amount ≤ Config.lifetimeMax) (hpool : t.ret.pool ≤ s.ret.pool)
      (hb : t.branch = { s.branch with figures := { s.branch.figures with
        withdrawn := s.ret.withdrawn + amount, lastOrder := order } }) : BranchChange s t
  | pool (t : State) (hpool : t.ret.pool ≤ Config.balanceMax) (hb : t.branch = s.branch) :
      BranchChange s t
  | levels (t : State) (p : Port) (l : Levels) (hpool : t.ret.pool ≤ s.ret.pool)
      (hl : (s.fundsOf p).LevelsSound → ∃ f : PortFunds, f.levels = l ∧ f.LevelsSound)
      (hb : t.branch = { s.branch with
        levels := fun q => if q = p then l else (s.fundsOf q).levels }) : BranchChange s t
  | next (t : State) (u : RateTable) (hpool : t.ret.pool ≤ s.ret.pool) (hs : s.ret.next.Sound → u.Sound)
      (he : u.edition = s.ret.next.edition ∨ u.edition = 0 ∨ u.edition ≠ s.ret.current.edition)
      (hb : t.branch = { s.branch with tables := (s.ret.current, u) }) : BranchChange s t
  | activated (t : State) (hpool : t.ret.pool ≤ s.ret.pool) (he : s.ret.next.edition ≠ 0)
      (hn : s.ret.next.hasBand = true)
      (hb : t.branch = { s.branch with tables := (s.ret.next, RateTable.empty) }) : BranchChange s t
  | stock (t : State) (i : Fin 24) (l : StockLine)
      (hpool : t.ret.pool ≤ s.ret.pool ∨ t.ret.pool ≤ Config.balanceMax)
      (hl : (s.stockLine i).Sound → l.Sound)
      (hb : t.branch = { s.branch with stock := s.ret.stock.set i l }) : BranchChange s t
  | counted (t : State) (i : Fin 24) (l : StockLine) (e : Discrepancy) (shortage surplus : Nat)
      (hpool : t.ret.pool ≤ s.ret.pool) (hl : (s.stockLine i).Sound → l.Sound)
      (hshort : Stays s.ret.shortage Config.lifetimeMax s.ret.shortage shortage)
      (hover : Stays s.ret.surplus Config.lifetimeMax s.ret.surplus surplus)
      (hb : t.branch = { s.branch with
        figures := { s.branch.figures with shortage := shortage, surplus := surplus }
        stock := s.ret.stock.set i l
        log := ((if s.ret.log.length < Config.logMax then s.ret.log else s.ret.log.drop 1) ++ [e],
          min Config.logCountMax (s.ret.logCount + 1)) }) : BranchChange s t
  | reinit (t : State) (hl : s.lockMark = true) (hr : t.ret = Retained.initial) (hm : t.lockMark = false) :
      BranchChange s t

theorem limits_sound {s : State} {p : Port} {run silence wait : Nat}
    (hr : Stays 1 Config.balanceMax (s.fundsOf p).runLimit run)
    (hs : Stays 5 300 (s.fundsOf p).silenceLimit silence)
    (hw : Stays 10 600 (s.fundsOf p).waitLimit wait) (h : (s.fundsOf p).LevelsSound) :
    ({ s.fundsOf p with runLimit := run, silenceLimit := silence, waitLimit := wait } :
      PortFunds).LevelsSound where
  order := h.order
  target := h.target
  runLimit := hr.elim (fun e => e ▸ h.runLimit) id
  silenceLimit := hs.elim (fun e => e ▸ h.silenceLimit) id
  waitLimit := hw.elim (fun e => e ▸ h.waitLimit) id

theorem levels_sound {f : PortFunds} {low target : Nat} (ho : low ≤ target) (ht : target ≤ levelMax)
    (h : f.LevelsSound) : ({ f with lowMark := low, target := target } : PortFunds).LevelsSound :=
  ⟨ho, ht, h.runLimit, h.silenceLimit, h.waitLimit⟩

/-- What an accepted request changes of the branch. -/
theorem branchChange_of_accepts {s t : State} (h : s.Accepts t) : BranchChange s t := by
  cases h
  case same => exact .none _ rfl le_rfl
  case refilled order amount ho hp hc =>
    exact .credited _ order amount ho hp hc ((pass_pool_le _).trans (by simp [refilled, creditOrder]))
      (by simp only [pass_branch, refilled, post_branch]; rfl)
  case withdrawn order amount ho hw =>
    exact .withdrawn _ order amount ho hw (by simp [withdrawn]) (by simp only [withdrawn, post_branch]; rfl)
  case spoilRefunded order p pieces amount ho hp hc =>
    refine .credited _ order amount ho hp hc
      ((pass_pool_le _).trans (by simp [spoilRefunded, creditOrder])) ?_
    have e := setFunds_branch_of_levels s p (f := { s.fundsOf p with
      spoilPieces := (s.fundsOf p).spoilPieces - pieces
      spoilValue := (s.fundsOf p).spoilValue - amount }) rfl
    simp only [pass_branch, spoilRefunded, post_branch]
    rw [← e]
    rfl
  case recalled p amount hp =>
    refine .pool _ ((pass_pool_le _).trans (by simpa [recalled] using hp)) ?_
    rw [pass_branch, recalled, setFunds_branch_of_levels _ _ (by rfl), setPool_branch]
  case levels p low target ho ht =>
    exact .levels _ p _ (lowMarkCheck_pool_le _ _) (fun h => ⟨_, rfl, levels_sound ho ht h⟩)
      (by rw [lowMarkCheck_branch, setFunds_branch])
  case limits p run silence wait hr hs hw =>
    exact .levels _ p _ le_rfl (fun h => ⟨_, rfl, limits_sound hr hs hw h⟩) (by rw [setFunds_branch])
  case next u hs he => exact .next _ u le_rfl hs he rfl
  case activated he hb =>
    exact .activated _ (by simp [activated]) he hb (by simp only [activated, post_branch]; rfl)
  case closeWaiting p r _ _ =>
    exact .none _ (by simp) ((pass_pool_le _).trans (closeUnasked_pool_le _ _ _ _))
  case closeOwed p r _ _ => exact .none _ (by simp) (closeUnasked_pool_le _ _ _ _)
  case cancelling p r _ _ => exact .none _ rfl le_rfl
  case halted p r _ _ => exact .none _ (by simp) (sendUnasked_pool_le _ _ _)
  case stock i l hl => exact .stock _ i l (.inl le_rfl) hl rfl
  case received i l value hl => exact .stock _ i l (.inl (Nat.sub_le _ _)) hl rfl
  case returned i pieces hl hp =>
    exact .stock _ i _ (.inr ((pass_pool_le _).trans (by simpa [returned] using hp))) hl
      (by simp only [pass_branch]; rfl)
  case counted i n hl hshort hover hne =>
    refine .counted _ i _ (countEntry i (s.stockLine i) n)
      (s.ret.shortage + if n < (s.stockLine i).onHand then countValue (s.stockLine i) n else 0)
      (s.ret.surplus + if n < (s.stockLine i).onHand then 0 else countValue (s.stockLine i) n)
      (by simp [counted, appendLog]) hl ?_ ?_ (by simp only [counted, post_branch]; rfl)
    · split_ifs with hlt
      · exact .inr ⟨Nat.le_add_right _ _, hshort hlt⟩
      · exact .inl rfl
    · split_ifs with hlt
      · exact .inl rfl
      · exact .inr ⟨Nat.le_add_right _ _, hover (by omega)⟩
  case suspendWaiting p r _ _ =>
    exact .none _ (by simp) ((pass_pool_le _).trans (closeUnasked_pool_le _ _ _ _))
  case meterreset p _ => exact .none _ (by simp) (takeMeterReset_pool_le _ _ _)
  case reinit h _ hl => exact .reinit _ hl rfl rfl
  all_goals exact .none _ rfl le_rfl

/-- A law of the branch and of the pool is kept by every command when every request keeps it. -/
theorem Kept.of_branch {P : State → Prop}
    (hP : ∀ s t : State, t.branch = s.branch → t.ret.pool ≤ s.ret.pool → P s → P t)
    (hc : ∀ s t : State, BranchChange s t → P s → P t) : Kept P where
  toMeterKept := (Steady.of_branch hP).meterKept
  host := fun s _ _ => hP s _ rfl le_rfl
  perform := fun s v fs _ h t r e => hc s t (branchChange_of_accepts (perform_accepts v fs s t r e)) h
  start := fun s c pins _ => hP s _ (startFrom_branch _ c pins) le_rfl
  stop := fun s _ _ _ => hP s _ rfl le_rfl

end Sys2Proof.Machine

/-! SUPPORT. The ranges of the Rate Tables, of the levels, of the branch figures and of the stock, and the
growth of the lifetime totals, at every step (O8 to O11, O14). -/

namespace Sys2Proof.Machine

open State

/-- A law kept by a lock put on contents that were not locked. -/
theorem lockContents_keeps {P : State → Prop} {s : State} (h : P s)
    (hl : P { s with lockMark := true, shelved := some s.ret, ret := Retained.locked }) :
    P s.lockContents := by
  unfold State.lockContents
  split_ifs
  · exact h
  · exact hl

/-! ### Rate Tables (R33, R34) -/

section

variable {s t : State}

theorem State.TablesSound.congr (h : s.TablesSound) (e : t.branch.tables = s.branch.tables) :
    t.TablesSound := by
  have hc : t.ret.current = s.ret.current := congrArg Prod.fst e
  have hn : t.ret.next = s.ret.next := congrArg Prod.snd e
  constructor
  all_goals simp only [hc, hn]
  exacts [h.current, h.next, h.unnumbered, h.numbered, h.differ]

theorem tablesSound_of_empty (hc : t.ret.current = RateTable.empty) (hn : t.ret.next = RateTable.empty) :
    t.TablesSound where
  current := hc ▸ RateTable.empty_sound
  next := hn ▸ RateTable.empty_sound
  unnumbered := fun _ => hc
  numbered := fun h => absurd (by rw [hc]; rfl) h
  differ := fun h => absurd (by rw [hc]; rfl) h

/-- A request keeps the tables sound: what is loaded into NEXT keeps its ranges and never bears CURRENT's
Edition, and an activation puts a numbered table with a band in CURRENT's place (R34, R42). -/
theorem BranchChange.tablesSound (c : BranchChange s t) (h : s.TablesSound) : t.TablesSound := by
  cases c
  case next u hpool hs he hb =>
    have hcurrent : t.ret.current = s.ret.current := congrArg (fun b => b.tables.1) hb
    have hnext : t.ret.next = u := congrArg (fun b => b.tables.2) hb
    refine ⟨hcurrent ▸ h.current, hnext ▸ hs h.next, ?_, ?_, ?_⟩
    · rw [hcurrent]
      exact h.unnumbered
    · rw [hcurrent]
      exact h.numbered
    · rw [hcurrent, hnext]
      intro hne
      obtain he | he | he := he
      · rw [he]
        exact h.differ hne
      · rw [he]
        exact hne.symm
      · exact he
  case activated hpool he hband hb =>
    have hcurrent : t.ret.current = s.ret.next := congrArg (fun b => b.tables.1) hb
    have hnext : t.ret.next = RateTable.empty := congrArg (fun b => b.tables.2) hb
    refine ⟨hcurrent ▸ h.next, hnext ▸ RateTable.empty_sound, ?_, ?_, ?_⟩
    · rw [hcurrent]
      exact fun e => absurd e he
    · rw [hcurrent]
      exact fun _ => hband
    · rw [hcurrent, hnext]
      exact fun hne => hne.symm
  case reinit hl hr hm => exact tablesSound_of_empty (by rw [hr]; rfl) (by rw [hr]; rfl)
  all_goals exact h.congr (congrArg Branch.tables ‹t.branch = _› :)

end

/-- Settles O8: only requests of the host change the tables, and each keeps them sound. -/
theorem rateTablesStaySound : Obligations.RateTablesStaySound := by
  intro s t hstep h
  have k : Kept State.TablesSound := .of_branch (fun _ _ hb _ h => h.congr (congrArg Branch.tables hb))
    fun _ _ c => c.tablesSound
  exact k.step hstep h (fun _ => h.congr rfl)
    fun _ => lockContents_keeps (h.congr rfl) (tablesSound_of_empty rfl rfl)

/-! ### Levels and limits (R17) -/

section

variable {f g : PortFunds}

theorem PortFunds.LevelsSound.congr (h : f.LevelsSound) (e : g.levels = f.levels) : g.LevelsSound := by
  have hlow : g.lowMark = f.lowMark := congrArg Levels.lowMark e
  have htarget : g.target = f.target := congrArg Levels.target e
  have hrun : g.runLimit = f.runLimit := congrArg Levels.runLimit e
  have hsilence : g.silenceLimit = f.silenceLimit := congrArg Levels.silenceLimit e
  have hwait : g.waitLimit = f.waitLimit := congrArg Levels.waitLimit e
  constructor
  all_goals simp only [hlow, htarget, hrun, hsilence, hwait]
  exacts [h.order, h.target, h.runLimit, h.silenceLimit, h.waitLimit]

theorem PortFunds.initial_levelsSound : PortFunds.initial.LevelsSound := by
  constructor <;> decide

end

/-- The law of the levels: in NORMAL every Port's are in their ranges (R17, R18). -/
def State.LevelsInNormal (s : State) : Prop := s.lockMark = false → ∀ p, (s.fundsOf p).LevelsSound

section

variable {s t : State}

theorem State.LevelsInNormal.congr (h : s.LevelsInNormal)
    (e : (t.branch.lockMark, t.branch.levels) = (s.branch.lockMark, s.branch.levels)) :
    t.LevelsInNormal := by
  intro hm p
  have hmark : t.lockMark = s.lockMark := congrArg Prod.fst e
  exact (h (hmark ▸ hm) p).congr (congrArg (fun x => x.2 p) e)

theorem BranchChange.levelsInNormal (c : BranchChange s t) (h : s.LevelsInNormal) :
    t.LevelsInNormal := by
  cases c
  case levels p l hpool hl hb =>
    have hmark : t.lockMark = s.lockMark := congrArg Branch.lockMark hb
    intro hm q
    have hq : (t.fundsOf q).levels = if q = p then l else (s.fundsOf q).levels :=
      congrArg (fun b => b.levels q) hb
    rw [hmark] at hm
    split_ifs at hq with e
    · obtain ⟨f, hf, hsound⟩ := hl (h hm p)
      exact hsound.congr (hq.trans hf.symm)
    · exact (h hm q).congr hq
  case reinit hl hr hm =>
    intro _ p
    rw [fundsOf, hr]
    simpa [Retained.initial, Vector.get_eq_getElem] using PortFunds.initial_levelsSound
  all_goals exact h.congr (congrArg (fun b => (b.lockMark, b.levels)) ‹t.branch = _› :)

end

/-- Settles O9: LEVELS and LIMITS alone store levels, clamped into their ranges, and in LOCKED the law says
nothing. -/
theorem allotmentLevelsStayInRange : Obligations.AllotmentLevelsStayInRange := by
  intro s t hstep h
  have hs : s.LevelsInNormal := h
  have k : Kept State.LevelsInNormal :=
    .of_branch (fun _ _ hb _ h => h.congr (congrArg (fun b => (b.lockMark, b.levels)) hb))
      fun _ _ c => c.levelsInNormal
  exact k.step hstep hs (fun _ => hs.congr rfl) fun _ => lockContents_keeps (hs.congr rfl) nofun

/-! ### The branch figures (R1 to R3, R97) -/

section

variable {s t : State}

theorem State.InRange.congr (h : s.InRange) (hp : t.ret.pool ≤ Config.balanceMax)
    (e : (t.branch.figures, t.branch.log) = (s.branch.figures, s.branch.log)) : t.InRange := by
  have hf : t.branch.figures = s.branch.figures := congrArg Prod.fst e
  have hl : t.branch.log = s.branch.log := congrArg Prod.snd e
  exact
    { pool := hp
      credited := (congrArg Figures.credited hf).le.trans h.credited
      withdrawn := (congrArg Figures.withdrawn hf).le.trans h.withdrawn
      surplus := (congrArg Figures.surplus hf).le.trans h.surplus
      shortage := (congrArg Figures.shortage hf).le.trans h.shortage
      lastOrder := (congrArg Figures.lastOrder hf).le.trans h.lastOrder
      logCount := (congrArg Prod.snd hl).le.trans h.logCount
      log := (congrArg (fun x => x.1.length) hl).le.trans h.log }

/-- The number of an accepted Order is within the range of Order numbers (R3, R4). -/
theorem State.NextOrder.le {order : Nat} (h : s.NextOrder order)
    (hl : s.ret.lastOrder ≤ Config.orderNumberMax) : order ≤ Config.orderNumberMax := by
  obtain ⟨hne, rfl⟩ := h
  omega

theorem Stays.le {lo hi old new : Nat} (h : Stays lo hi old new) (ho : old ≤ hi) : new ≤ hi :=
  h.elim (fun e => e ▸ ho) fun e => e.2

/-- The Discrepancy Log holds at most 16 entries after one is appended (R97). -/
theorem appendLog_length_le {log : List Discrepancy} (h : log.length ≤ Config.logMax) (e : Discrepancy) :
    ((if log.length < Config.logMax then log else log.drop 1) ++ [e]).length ≤ Config.logMax := by
  unfold Config.logMax at *
  split_ifs
  · simp only [List.length_append, List.length_singleton]
    omega
  · simp only [List.length_append, List.length_drop, List.length_singleton]
    omega

theorem BranchChange.inRange (c : BranchChange s t) (h : s.InRange) : t.InRange := by
  have hpool := h.pool
  cases c
  case credited order amount ho hp hc hle hb =>
    have hf := congrArg Branch.figures hb
    exact
      { pool := hle.trans hp
        credited := (congrArg Figures.credited hf).le.trans hc
        withdrawn := (congrArg Figures.withdrawn hf).le.trans h.withdrawn
        surplus := (congrArg Figures.surplus hf).le.trans h.surplus
        shortage := (congrArg Figures.shortage hf).le.trans h.shortage
        lastOrder := (congrArg Figures.lastOrder hf).le.trans (ho.le h.lastOrder)
        logCount := (congrArg (fun b => b.log.2) hb).le.trans h.logCount
        log := (congrArg (fun b => b.log.1.length) hb).le.trans h.log }
  case withdrawn order amount ho hw hle hb =>
    have hf := congrArg Branch.figures hb
    exact
      { pool := hle.trans hpool
        credited := (congrArg Figures.credited hf).le.trans h.credited
        withdrawn := (congrArg Figures.withdrawn hf).le.trans hw
        surplus := (congrArg Figures.surplus hf).le.trans h.surplus
        shortage := (congrArg Figures.shortage hf).le.trans h.shortage
        lastOrder := (congrArg Figures.lastOrder hf).le.trans (ho.le h.lastOrder)
        logCount := (congrArg (fun b => b.log.2) hb).le.trans h.logCount
        log := (congrArg (fun b => b.log.1.length) hb).le.trans h.log }
  case counted i l e shortage surplus hle hl hshort hover hb =>
    have hf := congrArg Branch.figures hb
    exact
      { pool := hle.trans hpool
        credited := (congrArg Figures.credited hf).le.trans h.credited
        withdrawn := (congrArg Figures.withdrawn hf).le.trans h.withdrawn
        surplus := (congrArg Figures.surplus hf).le.trans (hover.le h.surplus)
        shortage := (congrArg Figures.shortage hf).le.trans (hshort.le h.shortage)
        lastOrder := (congrArg Figures.lastOrder hf).le.trans h.lastOrder
        logCount := (congrArg (fun b => b.log.2) hb).le.trans (Nat.min_le_left _ _)
        log := (congrArg (fun b => b.log.1.length) hb).le.trans (appendLog_length_le h.log e) }
  case reinit hl hr hm => constructor <;> rw [hr] <;> decide
  case none hb hp => exact h.congr (hp.trans hpool) (congrArg (fun b => (b.figures, b.log)) hb)
  case pool hp hb => exact h.congr hp (congrArg (fun b => (b.figures, b.log)) hb)
  case levels hp hl hb => exact h.congr (hp.trans hpool) (congrArg (fun b => (b.figures, b.log)) hb)
  case next hp hs he hb => exact h.congr (hp.trans hpool) (congrArg (fun b => (b.figures, b.log)) hb)
  case activated hp he hn hb =>
    exact h.congr (hp.trans hpool) (congrArg (fun b => (b.figures, b.log)) hb)
  case stock hp hl hb =>
    exact h.congr (hp.elim (fun hp => hp.trans hpool) id) (congrArg (fun b => (b.figures, b.log)) hb)

end

/-- Settles O10: each request that changes a branch figure checks its range first, and every other event at
most draws on the pool. -/
theorem branchFiguresStayInRange : Obligations.BranchFiguresStayInRange := by
  intro s t hstep h
  have k : Kept State.InRange := .of_branch
    (fun _ _ hb hp h => h.congr (hp.trans h.pool) (congrArg (fun b => (b.figures, b.log)) hb))
    fun _ _ c => c.inRange
  exact k.step hstep h (fun _ => h.congr h.pool rfl) fun _ => lockContents_keeps (h.congr h.pool rfl)
    (by constructor <;> exact Nat.zero_le _)

/-! ### Stock Lines (R85) -/

/-- Every Stock Line is sound. -/
def State.StockSound (s : State) : Prop := ∀ i, (s.stockLine i).Sound

section

variable {s t : State}

theorem State.StockSound.congr (h : s.StockSound) (e : t.branch.stock = s.branch.stock) : t.StockSound := by
  intro i
  rw [stockLine, show t.ret.stock = s.ret.stock from e]
  exact h i

theorem BranchChange.stockSound (c : BranchChange s t) (h : s.StockSound) : t.StockSound := by
  have store : ∀ i l, ((s.stockLine i).Sound → l.Sound) → t.branch.stock = s.ret.stock.set i l →
      t.StockSound := by
    intro i l hl e j
    rw [stockLine, show t.ret.stock = s.ret.stock.set i l from e, get_set]
    split_ifs
    · exact hl (h i)
    · exact h j
  cases c
  case stock i l hp hl hb => exact store i l hl (congrArg Branch.stock hb)
  case counted i l e shortage surplus hp hl hshort hover hb => exact store i l hl (congrArg Branch.stock hb)
  case reinit hl hr hm => exact fun i => (hr ▸ initial_blank : t.ret.Blank).stockSound i
  all_goals exact h.congr (congrArg Branch.stock ‹t.branch = _› :)

end

/-- Settles O11: only the stock requests store a Stock Line, and each stores a sound one in the place of a
sound one. -/
theorem stockLinesStayInRange : Obligations.StockLinesStayInRange := by
  intro s t hstep h
  have hs : s.StockSound := h
  have k : Kept State.StockSound := .of_branch (fun _ _ hb _ h => h.congr (congrArg Branch.stock hb))
    fun _ _ c => c.stockSound
  exact k.step hstep hs (fun _ => hs.congr rfl)
    fun _ => lockContents_keeps (hs.congr rfl) (Retained.Blank.stockSound locked_blank)

/-! ### The growth of the totals (R2, R3) -/

/-- No figure of the first falls in the second. -/
structure Figures.Grow (a b : Figures) : Prop where
  credited : a.credited ≤ b.credited
  withdrawn : a.withdrawn ≤ b.withdrawn
  surplus : a.surplus ≤ b.surplus
  shortage : a.shortage ≤ b.shortage
  lastOrder : a.lastOrder ≤ b.lastOrder

theorem Figures.Grow.refl (a : Figures) : a.Grow a := ⟨le_rfl, le_rfl, le_rfl, le_rfl, le_rfl⟩

theorem Figures.Grow.trans {a b c : Figures} (h : a.Grow b) (k : b.Grow c) : a.Grow c :=
  ⟨h.credited.trans k.credited, h.withdrawn.trans k.withdrawn, h.surplus.trans k.surplus,
    h.shortage.trans k.shortage, h.lastOrder.trans k.lastOrder⟩

/-- From `s` on, with no start-up that locks: a device state in NORMAL stays so, and while the device state
is that of `s` no total falls. -/
def State.GrowsTo (s t : State) : Prop :=
  (s.lockMark = false → t.lockMark = false) ∧
    (t.lockMark = s.lockMark → s.branch.figures.Grow t.branch.figures)

section

variable {s t u : State}

theorem State.GrowsTo.congr (h : s.GrowsTo t) (e : u.branch = t.branch) : s.GrowsTo u := by
  have hm : u.lockMark = t.lockMark := congrArg Branch.lockMark e
  unfold GrowsTo at *
  rw [e, hm]
  exact h

/-- A request lets the totals grow, but for REINIT, which leaves LOCKED (R172). -/
theorem BranchChange.growsTo (c : BranchChange t u) (h : s.GrowsTo t) : s.GrowsTo u := by
  obtain ⟨hnormal, hgrow⟩ := h
  have further : u.branch.lockMark = t.branch.lockMark → t.branch.figures.Grow u.branch.figures →
      s.GrowsTo u := fun hm hg =>
    ⟨fun hs => hm.trans (hnormal hs), fun hu => (hgrow (hm.symm.trans hu)).trans hg⟩
  cases c
  case credited order amount ho hp hc hle hb =>
    refine further (congrArg Branch.lockMark hb :) ?_
    rw [hb]
    exact ⟨Nat.le_add_right _ _, le_rfl, le_rfl, le_rfl, ho.2 ▸ Nat.le_succ _⟩
  case withdrawn order amount ho hw hle hb =>
    refine further (congrArg Branch.lockMark hb :) ?_
    rw [hb]
    exact ⟨le_rfl, Nat.le_add_right _ _, le_rfl, le_rfl, ho.2 ▸ Nat.le_succ _⟩
  case counted i l e shortage surplus hle hl hshort hover hb =>
    refine further (congrArg Branch.lockMark hb :) ?_
    rw [hb]
    exact ⟨le_rfl, le_rfl, hover.elim (fun e => e.ge) And.left, hshort.elim (fun e => e.ge) And.left,
      le_rfl⟩
  case reinit hl hr hm =>
    refine ⟨fun _ => hm, fun hu => ?_⟩
    rw [hm] at hu
    rw [hnormal hu.symm] at hl
    cases hl
  all_goals
    exact further (congrArg Branch.lockMark ‹u.branch = _› :) (by rw [‹u.branch = _›]; exact .refl _)

/-- A start-up locks the contents or leaves the branch as it was (R169, R170). -/
theorem powerUp_branch (s : State) (pins : Pins) (failed : Bool) :
    s.lockMark = false ∧ (s.powerUp pins failed).lockMark = true ∨
      (s.powerUp pins failed).branch = s.branch := by
  unfold powerUp
  split_ifs
  · exact .inr (startFrom_branch s _ _)
  · unfold lockContents
    split_ifs with hm
    · exact .inr (startFrom_branch s _ _)
    · exact .inl ⟨by simpa using hm, rfl⟩

end

/-- Settles O14: a start-up that locks changes the device state, and every other command lets the totals
grow or leaves LOCKED. -/
theorem lifetimeTotalsNeverFall : Obligations.LifetimeTotalsNeverFall := by
  intro s t hstep hm
  have growth : s.branch.figures.Grow t.branch.figures := by
    unfold step at hstep
    split at hstep
    · cases hstep
      exact .refl _
    · rename_i c rest _
      have k : Kept s.GrowsTo := .of_branch (fun _ _ hb _ h => h.congr hb) fun _ _ c => c.growsTo
      have h0 : s.GrowsTo { s with pending := rest } := ⟨id, fun _ => .refl _⟩
      by_cases hc : ∃ pins failed, c = .startUp pins failed
      · obtain ⟨pins, failed, rfl⟩ := hc
        cases hstep
        split_ifs at hm ⊢
        · obtain ⟨hnormal, hlocked⟩ | hb := powerUp_branch { s with pending := rest } pins failed
          · rw [hlocked] at hm
            exact absurd (hm.trans hnormal) (by decide)
          · rw [hb]
            exact .refl _
        · exact .refl _
      · exact (k.exec h0 (fun pins failed e => absurd ⟨pins, failed, e⟩ hc) hstep).2 hm
  exact ⟨growth.credited, growth.withdrawn, growth.surplus, growth.shortage, growth.lastOrder⟩

end Sys2Proof.Machine

/-! SUPPORT. The queues and buffers keep their bounds (O12). -/

namespace Sys2Proof.Machine

open State

section

variable {s t : State}

/-- The bounds read the Notice Queue, the hold and the Meter Line Units alone. -/
theorem State.BuffersBounded.congr (h : s.BuffersBounded) (hn : t.notices = s.notices)
    (hh : t.host.hold = s.host.hold) (hm : t.mlus = s.mlus) : t.BuffersBounded where
  notices := hn ▸ h.notices
  hold := hh ▸ h.hold
  inputs := fun p => by simpa only [mlu, hm] using h.inputs p

theorem buffersBounded_steady : Steady State.BuffersBounded where
  post := fun s n h =>
    ⟨post_notices_length s n h.notices, by simpa using h.hold, fun p => by simpa using h.inputs p⟩
  record := fun _ _ _ h => h.congr rfl rfl rfl
  mlu := fun s p m hm h => by
    refine ⟨h.notices, h.hold, fun q => ?_⟩
    rw [setMlu_mlu]
    split_ifs
    · exact hm.elim (fun hle => hle.trans (h.inputs p)) id
    · exact h.inputs q
  marking := fun _ _ _ h => h.congr rfl rfl rfl
  funds := fun _ _ _ _ h => h.congr rfl rfl rfl
  run := fun _ _ _ h => h.congr rfl rfl rfl
  runId := fun _ _ _ h => h.congr rfl rfl rfl
  queue := fun _ _ h => h.congr rfl rfl rfl
  serial := fun _ _ _ h => h.congr rfl rfl rfl
  pool := fun _ _ _ h => h.congr rfl rfl rfl

theorem buffersBounded_of_accepts (c : s.Accepts t) (h : s.BuffersBounded) : t.BuffersBounded := by
  have k := buffersBounded_steady
  cases c
  case refilled => exact k.pass (k.post _ _ (h.congr rfl rfl rfl))
  case withdrawn => exact k.post _ _ (h.congr rfl rfl rfl)
  case spoilRefunded => exact k.pass (k.post _ _ (h.congr rfl rfl rfl))
  case recalled => exact k.pass (h.congr rfl rfl rfl)
  case levels => exact k.lowMarkCheck (h.congr rfl rfl rfl)
  case activated => exact k.post _ _ (h.congr rfl rfl rfl)
  case closeWaiting => exact k.pass (k.closeUnasked _ _ h)
  case closeOwed => exact k.closeUnasked _ _ h
  case halted => exact k.sendUnasked _ (h.congr rfl rfl rfl)
  case returned => exact k.pass (h.congr rfl rfl rfl)
  case counted => exact k.post _ _ (h.congr rfl rfl rfl)
  case suspendWaiting => exact k.pass (k.closeUnasked _ _ (h.congr rfl rfl rfl))
  case meterreset => exact k.mluQuiet rfl (k.takeMeterReset _ h)
  case loopedOn => exact k.record _ _ _ (k.mlu _ _ _ (.inl (Nat.zero_le _)) h)
  case loopedOff => exact k.record _ _ _ (k.mlu _ _ _ (.inl (Nat.zero_le _)) h)
  case startTest => exact k.meterKept.startTest _ h
  case notices n =>
    exact ⟨by simpa using h.notices.trans (Nat.le_add_right _ _), h.hold, h.inputs⟩
  case host hh => exact h.congr rfl hh rfl
  case reinit hh _ => exact h.congr rfl hh rfl
  all_goals exact h.congr rfl rfl rfl

/-- A start-up posts STARTUP and at most one Notice for each Port, or LOCKED (R165, R170). -/
theorem startupNotices_length (c : Cause) (locked : Bool) (ret : Retained) :
    (startupNotices c locked ret).length ≤ 7 := by
  unfold startupNotices
  split_ifs
  · simp
  · exact Nat.succ_le_succ (List.length_filterMap_le _ allPorts)

theorem startFrom_buffersBounded (s : State) (c : Cause) (pins : Pins) :
    (s.startFrom c pins).BuffersBounded where
  notices := (startupNotices_length _ _ _).trans (by decide)
  hold := Nat.zero_le _
  inputs := fun p => by
    change ((perPort fun p => Mlu.atStart (pins.marking.get p)).get p).inputs.length ≤ _
    rw [perPort_get]
    exact Nat.zero_le _

theorem buffersBounded_kept : Kept State.BuffersBounded where
  toMeterKept := buffersBounded_steady.meterKept
  host := fun _ _ hh h => ⟨h.notices, hh.elim (fun hle => hle.trans h.hold) id, h.inputs⟩
  perform := fun s v fs _ h t r e => buffersBounded_of_accepts (perform_accepts v fs s t r e) h
  start := fun _ c pins _ _ => startFrom_buffersBounded _ c pins
  stop := fun s _ _ _ h => by
    refine ⟨h.notices, h.hold, fun p => ?_⟩
    change ((perPort fun p => (s.mlu p).halted).get p).inputs.length ≤ _
    rw [perPort_get]
    exact h.inputs p

end

/-- Settles O12: every event posts within the queue's 32, and stores a hold and Input Queues no longer than
they were or than they hold; a start-up empties them. -/
theorem queuesStayBounded : Obligations.QueuesStayBounded := by
  intro s t e h
  refine buffersBounded_kept.step e h (fun _ => h.congr rfl rfl rfl) fun _ => ?_
  unfold lockContents
  split_ifs <;> exact h.congr rfl rfl rfl

end Sys2Proof.Machine

/-! SUPPORT. In LOCKED no event changes a retained value (O13). -/

namespace Sys2Proof.Machine

open State

/-! ### Operations on a Port with no Run (R67, R68, R82) -/

section

variable {s : State} {p : Port}

theorem restartSilence_of_none (h : s.runOf p = none) : s.restartSilence p = s := by
  rw [restartSilence, h]

theorem debit_of_none (h : s.runOf p = none) (b : Nat) : s.debit p b = s := by rw [debit, h]

theorem closeAtLine_of_none (h : s.runOf p = none) (reason : RunReason) : s.closeAtLine p reason = s := by
  rw [closeAtLine, h]

/-- With no Run, composing a frame only takes its slot (R140). -/
theorem compose_of_none (h : s.runOf p = none) (f : MeterFrame) : s.compose p f = s.putFrame p f := by
  have hput : (s.putFrame p f).runOf p = none := h
  cases f
  case runok | grant =>
    unfold compose
    dsimp only
    rw [debit_of_none hput, restartSilence_of_none hput]
  case halt => exact restartSilence_of_none hput
  all_goals rfl

@[simp] theorem State.detectBreak_ret : (s.detectBreak p).ret = s.ret := by
  unfold detectBreak
  dsimp only
  split <;> rfl

@[simp] theorem State.detectBreak_runOf (q : Port) : (s.detectBreak p).runOf q = s.runOf q := by
  rw [runOf, detectBreak_ret]; rfl

/-- A meter reset on a Port with no Run changes nothing retained (R118). -/
theorem takeMeterReset_ret_of_none (h : s.runOf p = none) (c : ResetCause) :
    (s.takeMeterReset p c).ret = s.ret := by
  unfold takeMeterReset
  dsimp only
  rw [closeAtLine_of_none (by simpa [leaveReady] using h)]
  simp [leaveReady]

/-- Line down on a Port with no Run changes nothing retained (R117). -/
theorem takeLineDown_ret_of_none (h : s.runOf p = none) : (s.takeLineDown p).ret = s.ret := by
  unfold takeLineDown
  dsimp only
  rw [closeAtLine_of_none (by simpa using h)]
  simp

/-! ### The lock -/

theorem State.LockedSound.runOf (h : s.LockedSound) (hl : s.lockMark = true) (q : Port) :
    s.runOf q = none := by
  rw [State.runOf, h hl]
  simp [Retained.locked, Retained.initial, Vector.get_eq_getElem]

/-- A state with the same device state, and in LOCKED with the same contents. -/
theorem State.LockedSound.congr {t : State} (h : s.LockedSound) (hm : t.lockMark = s.lockMark)
    (hr : s.lockMark = true → t.ret = s.ret) : t.LockedSound :=
  fun ht => (hr (hm ▸ ht)).trans (h (hm ▸ ht))

theorem lockMark_of_branch {t : State} (h : t.branch = s.branch) : t.lockMark = s.lockMark :=
  congrArg Branch.lockMark h

/-- In LOCKED a record of a meter is refused and changes nothing (R167). -/
theorem route_of_locked (h : s.LockedSound) (hl : s.lockMark = true) (f : Frame) :
    (route p f s).1 = s := by
  have hr := h.runOf hl p
  unfold route
  split_ifs
  · unfold takeAnnounce
    split
    · rfl
    · rw [if_pos hl]
  · rfl
  · unfold takeRun
    split
    · rfl
    · rw [if_pos hl]
  · rfl
  · unfold takeDone
    rw [hr]
    split <;> rfl
  · rfl
  · unfold takeStop
    rw [hr]
    split <;> rfl
  · rfl

theorem lockedSound_meterKept : MeterKept State.LockedSound where
  post := fun s n h => h.congr (post_lockMark s n) fun _ => post_ret s n
  record := fun _ _ _ _ _ h => h.congr rfl fun _ => rfl
  mlu := fun _ _ _ _ _ h => h.congr rfl fun _ => rfl
  marking := fun _ _ _ h => h.congr rfl fun _ => rfl
  compose := fun s p f h => h.congr (outside_lockMark (compose_outside s p f)) fun hl => by
    rw [compose_of_none (h.runOf hl p)]; rfl
  route := fun s p f _ h => h.congr
    (lockMark_of_branch ((steady_frame s).route f ⟨rfl, le_rfl⟩).1) fun hl => by
    rw [route_of_locked h hl]
  closeHeld := fun s p r final reason hr _ h => h.congr
    (lockMark_of_branch (closeUnasked_branch s p final reason)) fun hl => by simp [h.runOf hl p] at hr
  closeWaiting := fun s p r final reason hr _ h => h.congr
    ((pass_lockMark _).trans (lockMark_of_branch (closeUnasked_branch s p final reason)))
    fun hl => by simp [h.runOf hl p] at hr
  reset := fun s p c _ h => h.congr (outside_lockMark (takeMeterReset_outside s p c)) fun hl =>
    takeMeterReset_ret_of_none (h.runOf hl p) c
  down := fun s p _ h => h.congr
    (lockMark_of_branch ((steady_frame s).takeLineDown ⟨rfl, le_rfl⟩).1) fun hl =>
    takeLineDown_ret_of_none (h.runOf hl p)
  loopLine := fun _ _ _ _ h => h.congr rfl fun _ => rfl
  up := fun _ _ _ h => h.congr rfl fun _ => rfl

/-- REINIT leaves LOCKED (R172, step 3). -/
theorem reinitRequest_normal (s : State) : Leaves (reinitRequest s) fun t => t.lockMark = false :=
  leaves_bind fun _ _ => leaves_ok rfl

/-- In LOCKED only STATUS and REINIT are served: the one changes nothing retained, the other leaves LOCKED
(R152, R172). -/
theorem lockedSound_perform {v : HostVerb} {fs : List Text}
    (hserved : (s.lockMark && !v.servedLocked) = false) (h : s.LockedSound) :
    Leaves (perform v fs s) State.LockedSound := by
  intro t r e
  have hc := branchChange_of_accepts (perform_accepts v fs s t r e)
  by_cases hl : s.lockMark = true
  · have hv : v.servedLocked = true := by simpa [hl] using hserved
    have hs : v = .status ∨ v = .reinit := by cases v <;> simp_all [HostVerb.servedLocked]
    obtain rfl | rfl := hs
    · cases e
      exact h.congr rfl fun _ => rfl
    · exact fun ht => by simp [reinitRequest_normal s t r e] at ht
  · have hn := (hc.growsTo (s := s) ⟨id, fun _ => .refl _⟩).1 (by simpa using hl)
    exact fun ht => by simp [hn] at ht

theorem lockedSound_kept : Kept State.LockedSound where
  toMeterKept := lockedSound_meterKept
  host := fun _ _ _ h => h.congr rfl fun _ => rfl
  perform := fun _ _ _ hs h => lockedSound_perform hs h
  start := fun s c pins _ h => h.congr rfl fun hl => by
    change s.ret.restarted = s.ret
    rw [h hl]
    decide
  stop := fun _ _ _ _ h => h.congr rfl fun _ => rfl

end

/-- Settles O13: in LOCKED no Run exists, so no record, closure or pass moves a figure, the host verbs
served there are STATUS and REINIT, and a lock sets the contents aside. -/
theorem lockedContentsStayZero : Obligations.LockedContentsStayZero := by
  intro s t e h
  refine lockedSound_kept.step e h (fun _ => h.congr rfl fun _ => rfl) fun l => ?_
  unfold lockContents
  split_ifs
  · exact h.congr rfl fun _ => rfl
  · exact fun _ => rfl

end Sys2Proof.Machine

/-! SUPPORT. The Waiting Run Queue: what its laws read, and what leaves that alone (chapter 1, section 1.4;
R57, R62, R63). -/

namespace Sys2Proof.Machine

open State

/-- What the laws of the Waiting Run Queue read: the Credit Pool, the queue, and what each WAITING Run asks
for, its total against the Available of its Port. -/
structure WaitLine where
  pool : Nat
  queue : List Port
  claims : Port → Option (Nat × Nat)

/-- The total of a Port's WAITING Run and the Available it stands against. -/
def State.claim (s : State) (p : Port) : Option (Nat × Nat) :=
  (s.runOf p).bind fun r => if r.state = .waiting then some (r.total, (s.fundsOf p).available) else none

/-- The waiting line of a state. -/
def State.waitLine (s : State) : WaitLine := ⟨s.ret.pool, s.ret.queue, s.claim⟩

/-- The queue is sound, and the pool does not cover its head (R10, R57). -/
structure State.HeadHeld (s : State) : Prop where
  queue : s.QueueSound
  head : s.HeadUnservable

section

variable {s t : State} {p : Port} {r : Run}

theorem claim_eq_some {c : Nat × Nat} : s.claim p = some c ↔
    ∃ r, s.runOf p = some r ∧ r.state = .waiting ∧ c = (r.total, (s.fundsOf p).available) := by
  simp only [claim, Option.bind_eq_some_iff, Option.ite_none_right_eq_some, Option.some.injEq]
  exact exists_congr fun r => and_congr_right fun _ => and_congr_right fun _ => eq_comm

theorem waits_iff_claim : s.Waits p ↔ (s.claim p).isSome = true := by
  simp [Option.isSome_iff_exists, claim_eq_some, Waits]

theorem claim_eq_none : s.claim p = none ↔ ¬ s.Waits p := by
  rw [waits_iff_claim, Bool.not_eq_true, Option.isSome_eq_false_iff, Option.isNone_iff_eq_none]

theorem not_waits_of_none (h : s.runOf p = none) : ¬ s.Waits p := fun ⟨r, hr, _⟩ => by simp [h] at hr

theorem not_waits_of_state (h : s.runOf p = some r) (hw : r.state ≠ .waiting) : ¬ s.Waits p :=
  fun ⟨x, hx, hxw⟩ => by
    rw [h] at hx
    cases hx
    exact hw hxw

/-! ### The laws, read from the waiting line -/

theorem State.QueueSound.congr (h : s.QueueSound) (hq : t.ret.queue = s.ret.queue)
    (hw : ∀ p, t.Waits p ↔ s.Waits p) : t.QueueSound where
  nodup := hq ▸ h.nodup
  waiting := fun p => by rw [hq]; exact (h.waiting p).trans (hw p).symm

theorem waits_of_waitLine (e : t.waitLine = s.waitLine) (p : Port) : t.Waits p ↔ s.Waits p := by
  rw [waits_iff_claim, waits_iff_claim, show t.claim = s.claim from congrArg WaitLine.claims e]

/-- The head law of a sound queue is one of the claim of its head. -/
theorem State.QueueSound.head_iff (h : s.QueueSound) : s.HeadUnservable ↔
    ∀ p rest c, s.ret.queue = p :: rest → s.claim p = some c → c.2 + s.ret.pool < c.1 := by
  constructor
  · intro hs p rest c hq hc
    obtain ⟨r, hr, -, rfl⟩ := claim_eq_some.1 hc
    exact hs p rest hq r hr
  · intro hs p rest hq r hr
    obtain ⟨x, hx, hw⟩ := (h.waiting p).1 (by simp [hq])
    rw [hr] at hx
    cases hx
    exact hs p rest _ hq (claim_eq_some.2 ⟨r, hr, hw, rfl⟩)

namespace State.HeadHeld

/-- The waiting line is all the laws read, and a smaller pool keeps them. -/
theorem of_le (h : s.HeadHeld) (hq : t.ret.queue = s.ret.queue) (hc : t.claim = s.claim)
    (hp : t.ret.pool ≤ s.ret.pool) : t.HeadHeld := by
  have ht : t.QueueSound := h.queue.congr hq fun p => by rw [waits_iff_claim, waits_iff_claim, hc]
  refine ⟨ht, ht.head_iff.2 fun p rest c e ec => ?_⟩
  have := h.queue.head_iff.1 h.head p rest c (hq ▸ e) (hc ▸ ec)
  omega

theorem congr (h : s.HeadHeld) (e : t.waitLine = s.waitLine) : t.HeadHeld :=
  h.of_le (congrArg WaitLine.queue e) (congrArg WaitLine.claims e) (congrArg WaitLine.pool e).le

/-- With no Run waiting the head law asks nothing. -/
theorem of_empty (h : s.QueueSound) (hq : s.ret.queue = []) : s.HeadHeld :=
  ⟨h, fun p rest e => by simp [hq] at e⟩

end State.HeadHeld

/-! ### What leaves the waiting line alone -/

theorem waitLine_of_ret (h : t.ret = s.ret) : t.waitLine = s.waitLine := by
  have hc : t.claim = s.claim := by
    funext p
    simp only [claim, runOf, fundsOf, h]
  rw [waitLine, waitLine, hc, h]

theorem waitLine_of_ledger (h : t.ledger = s.ledger) : t.waitLine = s.waitLine := by
  have hf : t.ret.funds = s.ret.funds := congrArg Ledger.funds h
  have hr : t.ret.runs = s.ret.runs := congrArg Ledger.runs h
  have hc : t.claim = s.claim := by
    funext p
    simp only [claim, runOf, fundsOf, hf, hr]
  rw [waitLine, waitLine, hc, show t.ret.pool = s.ret.pool from congrArg Ledger.pool h,
    show t.ret.queue = s.ret.queue from congrArg Ledger.queue h]

/-- An update of one Port that leaves its claim as it was leaves the waiting line. -/
theorem waitLine_of_port (hp : t.ret.pool = s.ret.pool) (hq : t.ret.queue = s.ret.queue)
    (hr : ∀ q, q ≠ p → t.runOf q = s.runOf q) (hf : ∀ q, q ≠ p → t.fundsOf q = s.fundsOf q)
    (hc : t.claim p = s.claim p) : t.waitLine = s.waitLine := by
  have e : t.claim = s.claim := by
    funext q
    by_cases h : q = p
    · rw [h, hc]
    · simp only [claim, hr q h, hf q h]
  rw [waitLine, waitLine, e, hp, hq]

theorem setFunds_waitLine {f : PortFunds} (h : f.available = (s.fundsOf p).available ∨ ¬ s.Waits p) :
    (s.setFunds p f).waitLine = s.waitLine := by
  refine waitLine_of_port (p := p) rfl rfl (fun _ _ => rfl) (fun q hq => by simp [hq]) ?_
  obtain h | h := h
  · simp [claim, h]
  · rw [claim_eq_none.2 h, claim_eq_none]
    exact h

/-- A Run stored in the place of one with the same state and total. -/
theorem setRun_waitLine_some {r' : Run} (hr : s.runOf p = some r) (hs : r'.state = r.state)
    (ht : r'.total = r.total) : (s.setRun p (some r')).waitLine = s.waitLine :=
  waitLine_of_port (p := p) rfl rfl (fun q hq => by simp [hq]) (fun _ _ => rfl)
    (by simp [claim, hr, hs, ht])

/-- A Run Record slot stored at a Port with no WAITING Run before or after. -/
theorem setRun_waitLine_idle {x : Option Run} (h : ¬ s.Waits p) (hx : ∀ r, x = some r → r.state ≠ .waiting) :
    (s.setRun p x).waitLine = s.waitLine := by
  refine waitLine_of_port (p := p) rfl rfl (fun q hq => by simp [hq]) (fun _ _ => rfl) ?_
  rw [claim_eq_none.2 h, claim_eq_none]
  rintro ⟨r, hr, hw⟩
  exact hx r (by simpa using hr) hw

theorem restartSilence_waitLine (s : State) (p : Port) : (s.restartSilence p).waitLine = s.waitLine := by
  unfold restartSilence
  split
  · rename_i r hr
    exact setRun_waitLine_some hr rfl rfl
  · rfl

theorem debit_waitLine (s : State) (p : Port) (b : Nat) : (s.debit p b).waitLine = s.waitLine := by
  unfold debit
  split
  · rename_i r hr
    refine (setFunds_waitLine ?_).trans (setRun_waitLine_some hr rfl rfl)
    exact .inl rfl
  · rfl

theorem compose_waitLine (s : State) (p : Port) (f : MeterFrame) : (s.compose p f).waitLine = s.waitLine := by
  cases f
  case runok | grant =>
    exact (restartSilence_waitLine _ p).trans (debit_waitLine _ p _)
  case halt => exact restartSilence_waitLine _ p
  all_goals rfl

theorem sendUnasked_waitLine (s : State) (p : Port) (f : MeterFrame) :
    (s.sendUnasked p f).waitLine = s.waitLine := by
  unfold sendUnasked
  split_ifs
  · exact compose_waitLine s p f
  · rfl

theorem post_waitLine (s : State) (n : Notice) : (s.post n).waitLine = s.waitLine :=
  waitLine_of_ret (post_ret s n)

/-! ### Closures (R59) -/

/-- Closing a Run takes its Port out of the queue (R59, steps 3 and 4). -/
theorem State.QueueSound.remove (h : s.QueueSound) (ht : t.ret = ((s.returnReserved p).removeRun p).ret) :
    t.QueueSound := by
  have hrun : ∀ q, t.runOf q = if q = p then none else s.runOf q := fun q => by
    rw [runOf, ht]
    exact setRun_runOf (s.returnReserved p) p none q
  have hq : t.ret.queue = s.ret.queue.filter (· ≠ p) := by rw [ht]; rfl
  refine ⟨hq ▸ h.nodup.filter _, fun q => ?_⟩
  rw [hq, hrun]
  by_cases e : q = p
  · simp [e]
  · simpa [e] using h.waiting q

theorem filter_ne_of_not_waits (h : s.QueueSound) (hw : ¬ s.Waits p) :
    s.ret.queue.filter (fun q => q ≠ p) = s.ret.queue := by
  refine List.filter_eq_self.2 fun q hq => ?_
  have : q ≠ p := fun e => hw (h.mem_iff.1 (e ▸ hq))
  simpa using this

/-- Closing a Run that does not wait leaves the waiting line alone. -/
theorem remove_waitLine (h : s.QueueSound) (hw : ¬ s.Waits p) :
    ((s.returnReserved p).removeRun p).waitLine = s.waitLine := by
  have e : (s.returnReserved p).waitLine = s.waitLine := setFunds_waitLine (.inr hw)
  have e' := setRun_waitLine_idle (x := none) (mt (waits_of_waitLine e p).1 hw) nofun
  have hq : (s.returnReserved p).ret.queue.filter (fun q => q ≠ p) = s.ret.queue :=
    filter_ne_of_not_waits (s := s) h hw
  rw [removeRun, hq]
  exact e'.trans e

theorem closeSilently_waitLine (h : s.QueueSound) (hw : ¬ s.Waits p) (r : Run) (reason : RunReason) :
    (s.closeSilently p r reason).waitLine = s.waitLine :=
  (waitLine_of_ret (closeSilently_ret s p r reason)).trans (remove_waitLine h hw)

theorem closeUnasked_waitLine (h : s.QueueSound) (hw : ¬ s.Waits p) (r : Run) (reason : RunReason) :
    (s.closeUnasked p r reason).waitLine = s.waitLine :=
  (waitLine_of_ret (closeUnasked_ret s p r reason)).trans (remove_waitLine h hw)

/-! ### The low-mark check and the pass (R9 to R11, R24) -/

theorem setShort_waitLine (s : State) (p : Port) (b : Bool) : (s.setShort p b).waitLine = s.waitLine :=
  setFunds_waitLine (.inl rfl)

theorem markShort_waitLine (s : State) (p : Port) (c : ShortCause) (n : Nat) :
    (s.markShort p c n).waitLine = s.waitLine := by
  unfold markShort
  split_ifs
  · rfl
  · exact (post_waitLine _ _).trans (setShort_waitLine s p true)

theorem draw_queueSound (h : s.QueueSound) (n : Nat) : (s.draw p n).QueueSound :=
  h.congr rfl fun _ => Iff.rfl

/-- The low-mark check draws only while no Run waits (R24). -/
theorem State.HeadHeld.lowMarkCheck (h : s.HeadHeld) : (s.lowMarkCheck p).HeadHeld := by
  have drawn : ∀ n, s.ret.queue = [] → (s.draw p n).HeadHeld := fun n hq =>
    .of_empty (draw_queueSound h.queue n) hq
  unfold State.lowMarkCheck
  split_ifs with _ _ hq
  · exact h.congr (setShort_waitLine s p false)
  · exact h
  · exact h.congr (markShort_waitLine s p _ _)
  · exact (drawn _ (not_not.1 hq)).congr (setShort_waitLine _ p false)
  · exact (drawn _ (not_not.1 hq)).congr (markShort_waitLine _ p _ _)

theorem lowMarkCheck_queue (s : State) (p : Port) : (s.lowMarkCheck p).ret.queue = s.ret.queue := by
  unfold State.lowMarkCheck
  split_ifs
  · rfl
  · rfl
  · exact congrArg WaitLine.queue (markShort_waitLine s p _ _)
  · rfl
  · exact congrArg WaitLine.queue (markShort_waitLine (s.draw p s.ret.pool) p _ _)

theorem sendUnasked_queue (s : State) (p : Port) (f : MeterFrame) :
    (s.sendUnasked p f).ret.queue = s.ret.queue := congrArg WaitLine.queue (sendUnasked_waitLine s p f)

/-- Serving a head takes it off the queue (R10). -/
theorem serveHead_queue (s : State) (p : Port) (r : Run) :
    (s.serveHead p r).ret.queue = s.ret.queue.drop 1 := by
  rw [serveHead, sendUnasked_queue, lowMarkCheck_queue]
  rfl

theorem serveHead_waits (s : State) (p : Port) (r : Run) (q : Port) :
    (s.serveHead p r).Waits q ↔ q ≠ p ∧ s.Waits q := by
  rw [serveHead, waits_of_waitLine (sendUnasked_waitLine _ p _), waits_congr (lowMarkCheck_runOf _ _ _)]
  by_cases h : q = p
  · simp [Waits, h]
  · simp [Waits, h]

theorem State.QueueSound.serveHead (h : s.QueueSound) (hq : s.ret.queue.head? = some p) (r : Run) :
    (s.serveHead p r).QueueSound := by
  obtain ⟨rest, hrest⟩ := List.head?_eq_some_iff.1 hq
  obtain ⟨hp, hnodup⟩ := List.nodup_cons.1 (hrest ▸ h.nodup)
  refine ⟨by rw [serveHead_queue, hrest]; exact hnodup, fun q => ?_⟩
  rw [serveHead_queue, hrest]
  refine Iff.trans ?_ (serveHead_waits s p r q).symm
  rw [← h.mem_iff, hrest]
  simp only [List.drop_succ_cons, List.drop_zero, List.mem_cons]
  constructor
  · exact fun hm => ⟨fun e => hp (e ▸ hm), .inr hm⟩
  · exact fun ⟨hne, hm⟩ => hm.resolve_left hne

theorem State.QueueSound.topUp (h : s.QueueSound) : (s.topUp p).QueueSound := by
  have hrun : (s.topUp p).ret.runs = s.ret.runs := by
    unfold State.topUp
    split_ifs <;> rfl
  exact h.congr (topUp_queue s p) fun q => waits_congr (congrArg (Vector.get · q) hrun)

theorem State.QueueSound.pass (h : s.QueueSound) : s.pass.QueueSound :=
  pass_keeps s (fun _ _ r ht hq _ _ => ht.serveHead hq r) (fun _ _ _ ht => ht.topUp) h

/-- Step 1 of the pass stops with no Run waiting or at a head that cannot be served (R10). -/
theorem passStep1_headUnservable (n : Nat) :
    ∀ s : State, s.ret.queue.length ≤ n → (passStep1 n s).HeadUnservable := by
  induction n with
  | zero =>
    intro s h p rest hq
    change s.ret.queue = _ at hq
    simp [hq] at h
  | succ n ih =>
    intro s h
    unfold passStep1
    split
    · rename_i hq
      intro p rest e
      simp [hq] at e
    · rename_i p rest hq
      split
      · rename_i hr
        intro p' rest' e r er
        rw [hq] at e
        cases e
        simp [hr] at er
      · rename_i r hr
        split_ifs with hc
        · exact ih _ (by rw [serveHead_queue, hq]; simpa [hq] using h)
        · intro p' rest' e r' er
          rw [hq] at e
          cases e
          rw [hr] at er
          cases er
          omega

/-- After the pass the pool does not cover the head that is left (R10). -/
theorem pass_headUnservable (s : State) : s.pass.HeadUnservable := by
  have h1 := passStep1_headUnservable _ s le_rfl
  unfold State.pass passStep2
  split_ifs with hq
  · have key : ∀ (l : List Port) (t : State), t.ret.queue = [] →
        (l.foldl (fun t p => t.topUp p) t).ret.queue = [] := by
      intro l
      induction l with
      | nil => exact fun t h => h
      | cons p l ih => exact fun t h => ih _ (by rw [topUp_queue, h])
    intro p rest e
    simp [key allPorts _ hq] at e
  · exact h1

/-- The pass brings the head law about from any sound queue. -/
theorem State.QueueSound.headHeld_pass (h : s.QueueSound) : s.pass.HeadHeld := ⟨h.pass, pass_headUnservable s⟩

end

end Sys2Proof.Machine

/-! SUPPORT. Every command keeps the head law of the Waiting Run Queue (O6). -/

namespace Sys2Proof.Machine

open State

section

variable {s : State} {p : Port} {r : Run}

/-! ### Records of a meter (R60 to R72, R108) -/

namespace State.HeadHeld

theorem giveBasic (h : s.HeadHeld) : (s.giveBasic p).HeadHeld :=
  h.congr (waitLine_of_ledger (giveBasic_ledger s p))

/-- A reservation for a Run that does not wait takes from the pool alone what the head could draw. -/
theorem reserve (h : s.HeadHeld) (hw : ¬ s.Waits p) (n : Nat) : (s.reserve p n).HeadHeld := by
  rw [reserve_eq]
  have hpool : (s.setPool (s.ret.pool - s.reservationDraw p n)).HeadHeld :=
    h.of_le rfl rfl (Nat.sub_le _ _)
  exact hpool.congr (setFunds_waitLine (.inr hw))

theorem admitActive (h : s.HeadHeld) (hr : s.runOf p = none) : (s.admitActive p r).1.HeadHeld := by
  have hrun : ((s.setRunId p r.id).setRun p (some { r with
      state := .active, silenceDeadline := some (s.fundsOf p).silenceLimit })).HeadHeld := by
    refine (h.congr (t := s.setRunId p r.id) rfl).congr (setRun_waitLine_idle (not_waits_of_none hr) ?_)
    rintro _ ⟨⟩
    exact nofun
  exact (hrun.reserve (not_waits_of_state (setRun_runOf _ _ _ _ |>.trans (if_pos rfl)) nofun)
    r.total).lowMarkCheck

/-- A Run that must wait joins the tail; as the new head of an empty queue it is one that Available and
the pool do not cover (R22, R63). -/
theorem admitWaiting (h : s.HeadHeld) (hr : s.runOf p = none) (hw : r.state = .waiting)
    (hc : s.canReserve p r.total = false) : (s.admitWaiting p r).1.HeadHeld := by
  have hp := h.queue.not_mem hr
  have hqueue : (s.admitWaiting p r).1.ret.queue = s.ret.queue ++ [p] := by simp [State.admitWaiting]
  have hpool : (s.admitWaiting p r).1.ret.pool = s.ret.pool := by simp [State.admitWaiting]
  have hclaim : ∀ q, (s.admitWaiting p r).1.claim q =
      if q = p then some (r.total, (s.fundsOf p).available) else s.claim q := by
    intro q
    by_cases e : q = p <;> simp [State.admitWaiting, claim, e, hw]
  have hsound : (s.admitWaiting p r).1.QueueSound := by
    refine ⟨hqueue ▸ List.concat_eq_append ▸ h.queue.nodup.concat hp, fun q => ?_⟩
    refine Iff.trans ?_ waits_iff_claim.symm
    rw [hqueue, hclaim, List.mem_append, List.mem_singleton, h.queue.mem_iff, waits_iff_claim]
    split_ifs with e <;> simp [e]
  refine ⟨hsound, hsound.head_iff.2 fun q rest c hq hcl => ?_⟩
  rw [hqueue] at hq
  rw [hclaim] at hcl
  rw [hpool]
  cases hs : s.ret.queue with
  | nil =>
    rw [hs] at hq
    cases hq
    simp only [if_true, Option.some.injEq] at hcl
    simp only [canReserve, hs, List.isEmpty_nil, Bool.true_and, Bool.or_eq_false_iff,
      decide_eq_false_iff_not] at hc
    rw [← hcl]
    dsimp only
    omega
  | cons q' rest' =>
    rw [hs] at hq
    cases hq
    have hne : q ≠ p := fun e => hp (by simp [hs, e])
    exact h.queue.head_iff.1 h.head q rest' c hs (by simpa [hne] using hcl)

theorem admitRun (h : s.HeadHeld) (profile : Profile) (c w : Nat) (letters : Text) (n : Nat) :
    (s.admitRun p profile c w letters n).1.HeadHeld := by
  unfold State.admitRun
  split_ifs with hr
  · exact h
  · have hr : s.runOf p = none := by simpa using hr
    split
    · exact h
    · dsimp only
      split_ifs with hc
      · exact h.admitActive hr
      · exact h.admitWaiting hr rfl (eq_false_of_ne_true hc)

theorem takeRun (h : s.HeadHeld) (fs : List Text) : (takeRun p fs s).1.HeadHeld := by
  unfold Machine.takeRun
  split
  · exact h
  · split_ifs
    · exact h
    · exact h
    · dsimp only
      split
      · exact h.giveBasic
      · exact h.giveBasic.admitRun _ _ _ _ _

/-- Counts taken on a Run that does not wait (R70). -/
theorem countReport (h : s.HeadHeld) (hr : s.runOf p = some r) (a b : Nat) :
    (s.countReport p r a b).HeadHeld := by
  have hrun := h.congr (setRun_waitLine_some (r' := r.counted a b) hr rfl rfl)
  have hfunds : ((s.setRun p (some (r.counted a b))).setFunds p { s.fundsOf p with
      spoilPieces := (s.fundsOf p).spoilPieces + min b (min a r.outstanding)
      spoilValue := (s.fundsOf p).spoilValue + min b (min a r.outstanding) * r.charge }).HeadHeld :=
    hrun.congr (setFunds_waitLine (.inl rfl))
  exact hfunds.congr (waitLine_of_ledger (latchIf_ledger _ p _ _))

theorem closeSilently (h : s.HeadHeld) (hw : ¬ s.Waits p) (r : Run) (reason : RunReason) :
    (s.closeSilently p r reason).HeadHeld := h.congr (closeSilently_waitLine h.queue hw r reason)

theorem closeUnasked (h : s.HeadHeld) (hw : ¬ s.Waits p) (r : Run) (reason : RunReason) :
    (s.closeUnasked p r reason).HeadHeld := h.congr (closeUnasked_waitLine h.queue hw r reason)

theorem answerDone (h : s.HeadHeld) (hw : ¬ s.Waits p) (r : Run) : (s.answerDone p r).1.HeadHeld := by
  unfold State.answerDone
  split_ifs
  · exact h
  · exact h
  · exact h.closeSilently hw _ _
  · exact h.closeSilently hw _ _
  · exact h
  · exact h.closeSilently hw _ _

/-- The Run of a report that is not of a WAITING Run does not wait after its counts. -/
theorem not_waits_countReport (hw : r.state ≠ .waiting) (a b : Nat) :
    ¬ (s.countReport p r a b).Waits p := by
  refine not_waits_of_state (r := r.counted a b) ?_ hw
  simp [State.countReport]

theorem takeDone (h : s.HeadHeld) (fs : List Text) : (takeDone p fs s).1.HeadHeld := by
  unfold Machine.takeDone
  split
  · exact h
  · split
    · exact h
    · rename_i r hr
      split_ifs with hid
      · exact h
      · obtain ⟨-, hw⟩ := not_or.1 hid
        have e := fun a b => restartSilence_waitLine (s.countReport p r a b) p
        exact ((h.countReport hr _ _).congr (e _ _)).answerDone
          (mt (waits_of_waitLine (e _ _) p).1 (not_waits_countReport hw _ _)) _

theorem takeStop (h : s.HeadHeld) (fs : List Text) : (takeStop p fs s).1.HeadHeld := by
  unfold Machine.takeStop
  split
  · exact h
  · split
    · exact h
    · rename_i r hr
      split_ifs with _ hw
      · exact h
      · have hl := fun b => h.congr (waitLine_of_ledger (latchIf_ledger s p b .countMismatch))
        exact ((hl _).queue.remove (closeSilently_ret _ p r .stopped)).headHeld_pass
      all_goals
        have hn := not_waits_countReport (s := s) (p := p) hw
        exact ((h.countReport hr _ _).congr (setFunds_waitLine (.inr (hn _ _)))).closeSilently (hn _ _) _ _

theorem route (h : s.HeadHeld) (f : Frame) : (route p f s).1.HeadHeld := by
  unfold Machine.route
  split_ifs
  · unfold takeAnnounce
    split
    · exact h
    · split_ifs
      · exact h
      · exact h
      · exact h
      · exact h.congr (waitLine_of_ledger (attach_ledger s p _))
  · exact h
  · exact h.takeRun _
  · exact h
  · exact h.takeDone _
  · exact h
  · exact h.takeStop _
  · exact h

/-! ### Line events and closures (R59, R117, R118) -/

theorem closeAtLine (h : s.HeadHeld) (reason : RunReason) : (s.closeAtLine p reason).HeadHeld := by
  unfold State.closeAtLine
  split
  · rename_i r hr
    split_ifs with hw
    · exact (h.queue.remove (closeSilently_ret s p r reason)).headHeld_pass
    · exact h.closeSilently (not_waits_of_state hr hw) _ _
  · exact h

theorem post (h : s.HeadHeld) (n : Notice) : (s.post n).HeadHeld := h.congr (post_waitLine s n)

theorem setRecord (h : s.HeadHeld) (r : PortRecord) : (s.setRecord p r).HeadHeld := h.congr rfl

theorem latch (h : s.HeadHeld) (c : Condition) : (s.latch p c).HeadHeld := h.setRecord _

theorem detectBreak (h : s.HeadHeld) : (s.detectBreak p).HeadHeld :=
  h.congr (waitLine_of_ret (detectBreak_ret))

theorem takeMeterReset (h : s.HeadHeld) (c : ResetCause) : (s.takeMeterReset p c).HeadHeld := by
  have hleft : (((s.detectBreak p).setMlu p ((s.detectBreak p).mlu p).discard).leaveReady p
      .unannounced).HeadHeld := h.detectBreak.congr rfl
  exact ((hleft.closeAtLine .meterreset).latch .meterReset).post _

theorem takeLineDown (h : s.HeadHeld) : (s.takeLineDown p).HeadHeld := by
  have hdown : ((s.detectBreak p).setMlu p { ((s.detectBreak p).mlu p).discard with
      lineUp := false, drivingBreak := false }).HeadHeld := h.detectBreak.congr rfl
  exact ((hdown.setRecord _).closeAtLine .linedown).post _

theorem sendUnasked (h : s.HeadHeld) (f : MeterFrame) : (s.sendUnasked p f).HeadHeld :=
  h.congr (sendUnasked_waitLine s p f)

end State.HeadHeld

theorem headHeld_meterKept : MeterKept State.HeadHeld where
  post := fun _ n h => h.post n
  record := fun _ _ _ _ _ h => h.congr rfl
  mlu := fun _ _ _ _ _ h => h.congr rfl
  marking := fun _ _ _ h => h.congr rfl
  compose := fun s p f h => h.congr (compose_waitLine s p f)
  route := fun _ _ f _ h => h.route f
  closeHeld := fun _ _ _ _ _ hr hw h => h.closeUnasked (not_waits_of_state hr hw) _ _
  closeWaiting := fun s p _ final reason _ _ h =>
    (h.queue.remove (closeUnasked_ret s p final reason)).headHeld_pass
  reset := fun _ _ c _ h => h.takeMeterReset c
  down := fun _ _ _ h => h.takeLineDown
  loopLine := fun _ _ _ _ h => h.congr rfl
  up := fun _ _ _ h => h.congr rfl

/-! ### Requests of the host, power -/

/-- With the queue empty and no Run there is no head. -/
theorem headHeld_of_blank (hq : s.ret.queue = []) (hr : ∀ p, s.runOf p = none) : s.HeadHeld := by
  refine .of_empty ⟨hq ▸ List.nodup_nil, fun p => ?_⟩ hq
  simp [hq, hr]

theorem headHeld_of_accepts {t : State} (c : s.Accepts t) (h : s.HeadHeld) : t.HeadHeld := by
  -- a pass runs in a queue that is as sound as before: what the request changed is not the queue
  have passed : ∀ u : State, u.ret.queue = s.ret.queue → u.ret.runs = s.ret.runs → u.pass.HeadHeld :=
    fun u hq hr => (h.queue.congr hq fun q => waits_congr (congrArg (Vector.get · q) hr)).headHeld_pass
  cases c
  case refilled => exact passed _ (by simp [refilled, creditOrder]) (by simp [refilled, creditOrder])
  case withdrawn order amount _ _ =>
    have e : State.HeadHeld { s with ret := { s.ret with
        pool := s.ret.pool - amount
        withdrawn := s.ret.withdrawn + amount
        lastOrder := order } } := h.of_le rfl rfl (Nat.sub_le _ _)
    exact e.post _
  case spoilRefunded =>
    exact passed _ (by simp [spoilRefunded, creditOrder]) (by simp [spoilRefunded, creditOrder])
  case recalled => exact passed _ rfl rfl
  case levels p low target _ _ =>
    have e : (s.setFunds p { s.fundsOf p with lowMark := low, target := target }).HeadHeld :=
      h.congr (setFunds_waitLine (.inl rfl))
    exact e.lowMarkCheck
  case limits => exact h.congr (setFunds_waitLine (.inl rfl))
  case activated =>
    have e : State.HeadHeld { s with ret := { s.ret with
      current := s.ret.next, next := RateTable.empty } } := h.congr rfl
    exact e.post _
  case closeWaiting p r _ _ => exact (h.queue.remove (closeUnasked_ret s p r _)).headHeld_pass
  case closeOwed hr hw => exact h.closeUnasked (not_waits_of_state hr hw) _ _
  case cancelling hr hw =>
    refine h.congr (setRun_waitLine_idle (not_waits_of_state hr hw) ?_)
    rintro _ ⟨⟩
    exact nofun
  case halted hr hw =>
    refine (h.congr (setRun_waitLine_idle (not_waits_of_state hr hw) ?_)).sendUnasked _
    rintro _ ⟨⟩
    exact nofun
  case received => exact h.of_le rfl rfl (Nat.sub_le _ _)
  case returned => exact passed _ rfl rfl
  case counted i n _ _ _ _ =>
    refine h.congr ?_
    rw [counted, post_waitLine]
    rfl
  case suspendWaiting p r _ _ =>
    have e : (s.setSuspended p true).HeadHeld := h.congr rfl
    exact (e.queue.remove (closeUnasked_ret _ p r _)).headHeld_pass
  case meterreset => exact (h.takeMeterReset _).congr rfl
  case reinit =>
    exact headHeld_of_blank rfl fun p => by
      simp [reinitialised, runOf, Retained.initial, Vector.get_eq_getElem]
  all_goals exact h.congr rfl

theorem headHeld_kept : Kept State.HeadHeld where
  toMeterKept := headHeld_meterKept
  host := fun _ _ _ h => h.congr rfl
  perform := fun s v fs _ h t r e => headHeld_of_accepts (perform_accepts v fs s t r e) h
  start := fun s c pins _ _ => headHeld_of_blank rfl fun p => by
    change s.ret.restarted.runs.get p = none
    simp [Retained.restarted, Vector.get_eq_getElem]
  stop := fun _ _ _ _ h => h.congr rfl

end

/-- Settles O6: only a pass, an admission and the closure of a Run change the head of the queue, what its
Available holds, or raise the pool. A pass goes on until it cannot serve the head; a Run admitted to an empty
queue is one the pool did not cover; and every closure of a WAITING Run is followed by a pass. -/
theorem poolNeverCoversWaitingHead : Obligations.PoolNeverCoversWaitingHead := by
  intro s t e ha _ _ hu
  have h : s.HeadHeld := ⟨ha.queue, hu⟩
  refine (headHeld_kept.step e h (fun _ => h.congr rfl) fun _ => ?_).head
  unfold lockContents
  split_ifs
  · exact h.congr rfl
  · exact headHeld_of_blank rfl fun p => by
      simp [runOf, Retained.locked, Retained.initial, Vector.get_eq_getElem]

end Sys2Proof.Machine

/-! SUPPORT. Runs, Profiles and line-up flags agree with the states of the Ports (O7). -/

namespace Sys2Proof.Machine

open State

/-! ### Laws kept by every update that leaves the shape of the Ports -/

/-- The laws that stand every update of the accounts and of a line's transmitter: such an update keeps the
state and the Profile of a Port and its line-up flag, and makes no Run where there was none. -/
structure Shaped (P : State → Prop) : Prop where
  post : ∀ s n, P s → P (s.post n)
  record : ∀ s p r, r.state = (s.record p).state → r.profile = (s.record p).profile → P s →
    P (s.setRecord p r)
  mlu : ∀ s p m, m.lineUp = (s.mlu p).lineUp → P s → P (s.setMlu p m)
  funds : ∀ s p f, P s → P (s.setFunds p f)
  run : ∀ s p r, (r.isSome = true → (s.runOf p).isSome = true) → P s → P (s.setRun p r)
  queue : ∀ s l, P s → P (s.setQueue l)
  pool : ∀ s n, P s → P (s.setPool n)

namespace Shaped

variable {P : State → Prop} (k : Shaped P) {s : State} {p : Port}

include k

theorem latch (c : Condition) (h : P s) : P (s.latch p c) := k.record s p _ rfl rfl h

theorem latchIf (b : Bool) (c : Condition) (h : P s) : P (s.latchIf b p c) := by
  cases b
  · exact h
  · exact k.latch c h

/-- A Run stored in the place of one. -/
theorem runSome {r : Run} (hr : s.runOf p = some r) (x : Option Run) (h : P s) : P (s.setRun p x) :=
  k.run s p x (fun _ => by rw [hr]; rfl) h

theorem draw (n : Nat) (h : P s) : P (s.draw p n) := k.funds _ p _ (k.pool s _ h)

theorem setShort (b : Bool) (h : P s) : P (s.setShort p b) := k.funds s p _ h

theorem markShort (c : ShortCause) (n : Nat) (h : P s) : P (s.markShort p c n) := by
  unfold State.markShort
  split_ifs
  · exact h
  · exact k.post _ _ (k.latch _ (k.setShort _ h))

theorem lowMarkCheck (h : P s) : P (s.lowMarkCheck p) := by
  unfold State.lowMarkCheck
  split_ifs
  · exact k.setShort _ h
  · exact h
  · exact k.markShort _ _ h
  · exact k.setShort _ (k.draw _ h)
  · exact k.markShort _ _ (k.draw _ h)

theorem reserve (n : Nat) (h : P s) : P (s.reserve p n) := k.funds _ p _ (k.draw _ h)

theorem restartSilence (h : P s) : P (s.restartSilence p) := by
  unfold State.restartSilence
  split
  · rename_i r hr
    exact k.runSome hr _ h
  · exact h

theorem debit (b : Nat) (h : P s) : P (s.debit p b) := by
  unfold State.debit
  split
  · rename_i r hr
    exact k.funds _ p _ (k.runSome hr _ h)
  · exact h

theorem putFrame (f : MeterFrame) (h : P s) : P (s.putFrame p f) := k.mlu s p _ rfl h

theorem compose (f : MeterFrame) (h : P s) : P (s.compose p f) := by
  cases f
  case runok | grant => exact k.restartSilence (k.debit _ (k.putFrame _ h))
  case halt => exact k.restartSilence (k.putFrame _ h)
  all_goals exact k.putFrame _ h

theorem sendUnasked (f : MeterFrame) (h : P s) : P (s.sendUnasked p f) := by
  unfold State.sendUnasked
  split_ifs
  · exact k.compose f h
  · exact k.mlu s p _ rfl h

theorem remove (h : P s) : P ((s.returnReserved p).removeRun p) :=
  k.queue _ _ (k.run _ p none nofun (k.funds s p _ h))

theorem closeSilently (r : Run) (reason : RunReason) (h : P s) : P (s.closeSilently p r reason) :=
  k.post _ _ (k.remove h)

theorem closeUnasked (r : Run) (reason : RunReason) (h : P s) : P (s.closeUnasked p r reason) :=
  k.post _ _ (k.sendUnasked _ (k.remove h))

theorem serveHead {r : Run} (hr : s.runOf p = some r) (h : P s) : P (s.serveHead p r) := by
  have hrun := k.runSome (s := (s.reserve p r.total).setQueue (s.ret.queue.drop 1)) (p := p) hr (some { r with
    state := .active, waitDeadline := none, silenceDeadline := some (s.fundsOf p).silenceLimit })
    (k.queue _ _ (k.reserve _ h))
  exact k.sendUnasked _ (k.lowMarkCheck hrun)

theorem topUp (h : P s) : P (s.topUp p) := by
  unfold State.topUp
  split_ifs
  · exact k.setShort _ h
  · exact k.setShort _ (k.draw _ h)
  · exact h

theorem pass (h : P s) : P s.pass :=
  pass_keeps s (fun _ _ _ ht _ hr _ => k.serveHead hr ht) (fun _ _ _ ht => k.topUp ht) h

theorem closeAtLine (reason : RunReason) (h : P s) : P (s.closeAtLine p reason) := by
  unfold State.closeAtLine
  split
  · split_ifs
    · exact k.pass (k.closeSilently _ _ h)
    · exact k.closeSilently _ _ h
  · exact h

theorem countReport {r : Run} (hr : s.runOf p = some r) (a b : Nat) (h : P s) :
    P (s.countReport p r a b) :=
  k.latchIf _ _ (k.funds _ p _ (k.runSome hr _ h))

theorem answerDone (r : Run) (h : P s) : P (s.answerDone p r).1 := by
  unfold State.answerDone
  split_ifs
  · exact h
  · exact h
  · exact k.closeSilently _ _ h
  · exact k.closeSilently _ _ h
  · exact h
  · exact k.closeSilently _ _ h

theorem takeDone (fs : List Text) (h : P s) : P (takeDone p fs s).1 := by
  unfold Machine.takeDone
  split
  · exact h
  · split
    · exact h
    · rename_i r hr
      split_ifs
      · exact h
      · exact k.answerDone _ (k.restartSilence (k.countReport hr _ _ h))

theorem takeStop (fs : List Text) (h : P s) : P (takeStop p fs s).1 := by
  unfold Machine.takeStop
  split
  · exact h
  · split
    · exact h
    · rename_i r hr
      split_ifs
      · exact h
      · exact k.pass (k.closeSilently _ _ (k.latchIf _ _ h))
      · exact k.closeSilently _ _ (k.funds _ p _ (k.countReport hr _ _ h))
      · exact k.closeSilently _ _ (k.funds _ p _ (k.countReport hr _ _ h))

theorem detectBreak (h : P s) : P (s.detectBreak p) := by
  unfold State.detectBreak
  dsimp only
  split
  · exact k.mlu _ p _ rfl (k.record _ p _ rfl rfl (k.latch _ h))
  · exact k.mlu _ p _ rfl h

end Shaped

/-! ### The shape of a Port -/

/-- The state of a Port, its Profile, its line-up flag and whether it has a Run. -/
structure Shape where
  state : PortState
  profile : Option Profile
  lineUp : Bool
  hasRun : Bool

/-- The shape of a Port in a state. -/
def State.shape (s : State) (p : Port) : Shape :=
  ⟨(s.record p).state, (s.record p).profile, (s.mlu p).lineUp, (s.runOf p).isSome⟩

/-- The laws of one Port (R57, R104, R111). -/
structure Shape.Sound (x : Shape) : Prop where
  run : x.hasRun = true → x.state = .ready
  ready : x.state = .ready ↔ x.profile.isSome = true
  profile : ∀ q, x.profile = some q → q.Sound
  absent : x.state = .absent → x.lineUp = false
  attached : x.state.attached = true → x.lineUp = true

/-- The terms of the Offer (R106). -/
def Offer.Sound (o : Offer) : Prop :=
  (1 ≤ o.maxRun ∧ o.maxRun ≤ 9999) ∧ (1 ≤ o.block ∧ o.block ≤ 25)

/-- The laws of the Ports and of the Offer together. -/
structure State.PortsSound (s : State) : Prop where
  offer : s.lockMark = false → s.ret.offer.Sound
  port : ∀ p, (s.shape p).Sound

theorem portsSound_iff {s : State} :
    s.PortsSound ↔ s.RunsOnReady ∧ s.ProfilesSound ∧ s.LinesSound := by
  constructor
  · exact fun h => ⟨fun p => (h.port p).run,
      ⟨h.offer, fun p => (h.port p).ready, fun p => (h.port p).profile⟩,
      fun p => ⟨(h.port p).absent, (h.port p).attached⟩⟩
  · rintro ⟨hrun, hprofiles, hlines⟩
    exact ⟨hprofiles.offer,
      fun p => ⟨hrun p, hprofiles.ready p, hprofiles.sound p, (hlines p).1, (hlines p).2⟩⟩

section

variable {s t : State} {p : Port}

/-- A Port that loses its Run, or keeps all, stays sound. -/
theorem Shape.Sound.mono {x y : Shape} (h : x.Sound) (hs : y.state = x.state) (hp : y.profile = x.profile)
    (hl : y.lineUp = x.lineUp) (hr : y.hasRun = true → x.hasRun = true) : y.Sound where
  run := fun e => hs ▸ h.run (hr e)
  ready := by rw [hs, hp]; exact h.ready
  profile := by rw [hp]; exact h.profile
  absent := by rw [hs, hl]; exact h.absent
  attached := by rw [hs, hl]; exact h.attached

theorem State.PortsSound.mono (h : s.PortsSound) (hm : t.lockMark = s.lockMark)
    (ho : t.ret.offer = s.ret.offer) (hs : ∀ q, (t.record q).state = (s.record q).state)
    (hp : ∀ q, (t.record q).profile = (s.record q).profile) (hl : ∀ q, (t.mlu q).lineUp = (s.mlu q).lineUp)
    (hr : ∀ q, (t.runOf q).isSome = true → (s.runOf q).isSome = true) : t.PortsSound where
  offer := by rw [hm, ho]; exact h.offer
  port := fun q => (h.port q).mono (hs q) (hp q) (hl q) (hr q)

/-- A state with the same offer, records, Meter Line Units and Runs. -/
theorem State.PortsSound.congr (h : s.PortsSound) (hm : t.lockMark = s.lockMark)
    (ho : t.ret.offer = s.ret.offer) (hr : t.records = s.records) (hl : t.mlus = s.mlus)
    (hrun : t.ret.runs = s.ret.runs) : t.PortsSound :=
  h.mono hm ho (fun q => by rw [record, record, hr]) (fun q => by rw [record, record, hr])
    (fun q => by rw [mlu, mlu, hl]) fun q => by rw [runOf, runOf, hrun]; exact id

/-- A Port changed to a sound shape beside others left as they were. -/
theorem State.PortsSound.update (h : s.PortsSound) (hm : t.lockMark = s.lockMark)
    (ho : t.ret.offer = s.ret.offer) (hq : ∀ q, q ≠ p → t.shape q = s.shape q) (hp : (t.shape p).Sound) :
    t.PortsSound where
  offer := by rw [hm, ho]; exact h.offer
  port := fun q => by
    by_cases e : q = p
    · exact e ▸ hp
    · exact hq q e ▸ h.port q

/-- A law that reads the Offer, the device state, the states, Profiles and line-up flags of the Ports, and
that the end of a Run keeps. -/
theorem Shaped.of_mono {P : State → Prop}
    (hP : ∀ s t : State, t.lockMark = s.lockMark → t.ret.offer = s.ret.offer →
      (∀ q, (t.record q).state = (s.record q).state) → (∀ q, (t.record q).profile = (s.record q).profile) →
      (∀ q, (t.mlu q).lineUp = (s.mlu q).lineUp) →
      (∀ q, (t.runOf q).isSome = true → (s.runOf q).isSome = true) → P s → P t) : Shaped P where
  post := fun s n => hP s _ (by simp) (by simp) (by simp) (by simp) (by simp) (by simp)
  record := fun s p r hs hp => by
    refine hP s _ rfl rfl (fun q => ?_) (fun q => ?_) (fun _ => rfl) fun _ => id
    all_goals
      rw [setRecord_record]
      split_ifs with e
      · simp [e, hs, hp]
      · rfl
  mlu := fun s p m hl => by
    refine hP s _ rfl rfl (fun _ => rfl) (fun _ => rfl) (fun q => ?_) fun _ => id
    rw [setMlu_mlu]
    split_ifs with e
    · simp [e, hl]
    · rfl
  funds := fun s _ _ => hP s _ rfl rfl (fun _ => rfl) (fun _ => rfl) (fun _ => rfl) fun _ => id
  run := fun s p r hr => by
    refine hP s _ rfl rfl (fun _ => rfl) (fun _ => rfl) (fun _ => rfl) fun q hq => ?_
    rw [setRun_runOf] at hq
    split_ifs at hq with e
    · exact e ▸ hr hq
    · exact hq
  queue := fun s _ => hP s _ rfl rfl (fun _ => rfl) (fun _ => rfl) (fun _ => rfl) fun _ => id
  pool := fun s _ => hP s _ rfl rfl (fun _ => rfl) (fun _ => rfl) (fun _ => rfl) fun _ => id

theorem portsSound_shaped : Shaped State.PortsSound :=
  .of_mono fun _ _ hm ho hs hp hl hr h => h.mono hm ho hs hp hl hr

/-! ### Announcement, admission and the line events (R60, R61, R104, R111, R117 to R120) -/

/-- A Port record stored with a sound shape. -/
theorem State.PortsSound.setRecord (h : s.PortsSound) {r : PortRecord}
    (hr : (⟨r.state, r.profile, (s.mlu p).lineUp, (s.runOf p).isSome⟩ : Shape).Sound) :
    (s.setRecord p r).PortsSound := by
  refine h.update (p := p) rfl rfl (fun q e => ?_) ?_
  · simp [shape, e]
  · simpa [shape] using hr

theorem basicProfile_sound {o : Offer} (h : (basicProfile o).classes ≠ []) : (basicProfile o).Sound :=
  ⟨h, .inl rfl, ⟨le_rfl, Nat.succ_le_succ (Nat.zero_le 9998)⟩, le_rfl, Nat.succ_le_succ (Nat.zero_le 24)⟩

/-- A Port with no Run goes UNANNOUNCED, READY or REFUSED to READY or REFUSED with its line up. -/
theorem State.PortsSound.resolve (h : s.PortsSound) (ha : (s.record p).state.attached = true)
    (hr : s.runOf p = none) (r : PortRecord)
    (hs : (r.state = .refused ∧ r.profile = none) ∨ ∃ q, r.state = .ready ∧ r.profile = some q ∧ q.Sound) :
    (s.setRecord p r).PortsSound := by
  have hup := (h.port p).attached ha
  refine h.setRecord ?_
  obtain ⟨hs, hp⟩ | ⟨q, hs, hp, hq⟩ := hs
  · rw [hs, hp, hr]
    exact ⟨nofun, by simp, nofun, nofun, fun _ => hup⟩
  · rw [hs, hp]
    exact ⟨fun _ => rfl, by simp, fun x hx => by cases hx; exact hq, nofun, fun _ => hup⟩

theorem State.PortsSound.runOf_none (h : s.PortsSound) (hs : (s.record p).state ≠ .ready) :
    s.runOf p = none := by
  by_contra e
  exact hs ((h.port p).run (Option.isSome_iff_ne_none.2 e))

theorem State.PortsSound.giveBasic (h : s.PortsSound) : (s.giveBasic p).PortsSound := by
  unfold State.giveBasic
  split_ifs with hu hc
  · exact h.resolve (by simp [hu, PortState.attached]) (h.runOf_none (by simp [hu])) _ (.inl ⟨rfl, rfl⟩)
  · exact portsSound_shaped.latch _ (h.resolve (by simp [hu, PortState.attached])
      (h.runOf_none (by simp [hu])) _ (.inr ⟨_, rfl, rfl, basicProfile_sound hc⟩))
  · exact h

/-- A Run stored on a Port that holds a Profile. -/
theorem State.PortsSound.setRun (h : s.PortsSound) {q : Profile} (hq : (s.record p).profile = some q)
    (r : Option Run) : (s.setRun p r).PortsSound := by
  have hready := (h.port p).ready.2 (by simp [shape, hq])
  refine h.update (p := p) rfl rfl (fun x e => by simp [shape, e]) ?_
  have hp := h.port p
  exact ⟨fun _ => hready, hp.ready, hp.profile, hp.absent, hp.attached⟩

theorem State.PortsSound.admitRun (h : s.PortsSound) {profile : Profile}
    (hq : (s.record p).profile = some profile) (c w : Nat) (letters : Text) (n : Nat) :
    (s.admitRun p profile c w letters n).1.PortsSound := by
  have k := portsSound_shaped
  have hid : ∀ i, (s.setRunId p i).PortsSound := fun _ => h.congr rfl rfl rfl rfl rfl
  unfold State.admitRun
  split_ifs
  · exact h
  · split
    · exact h
    · dsimp only
      split_ifs
      · exact k.lowMarkCheck (k.reserve _ ((hid _).setRun hq _))
      · exact k.post _ _ (k.queue _ _ ((hid _).setRun hq _))

theorem State.PortsSound.takeRun (h : s.PortsSound) (fs : List Text) : (takeRun p fs s).1.PortsSound := by
  unfold Machine.takeRun
  split
  · exact h
  · split_ifs
    · exact h
    · exact h
    · dsimp only
      split
      · exact h.giveBasic
      · rename_i q hq
        exact h.giveBasic.admitRun hq _ _ _ _

theorem State.PortsSound.recordSerial (h : s.PortsSound) (t : Text) : (s.recordSerial p t).PortsSound := by
  have k := portsSound_shaped
  unfold State.recordSerial
  dsimp only
  split_ifs
  · exact (k.post _ _ (k.latch _ h)).congr rfl rfl rfl rfl rfl
  · exact h.congr rfl rfl rfl rfl rfl

/-- The Profile resolved from an announcement and an Offer whose terms are kept (R111). -/
theorem resolveProfile_sound {a : Announcement} {o : Offer} (ho : o.Sound) (hl : 1 ≤ a.level)
    (hm : 1 ≤ a.maxRun) (hb : 1 ≤ a.block) (hc : (resolveProfile a o).classes ≠ []) :
    (resolveProfile a o).Sound := by
  obtain ⟨hrun, hblock⟩ := ho
  refine ⟨hc, ?_, ?_, ?_⟩ <;> simp only [resolveProfile] <;> omega

theorem announceFields_sound {fs : List Text} {a : Announcement} (h : announceFields fs = .ok a) :
    1 ≤ a.level ∧ 1 ≤ a.maxRun ∧ 1 ≤ a.block := by
  unfold announceFields at h
  simp only [bind_eq_ok, refuseIf_eq_ok] at h
  obtain ⟨_, -, level, -, _, hlevel, _, -, classes, -, letters, -, maxRun, -, block, -, e⟩ := h
  cases e
  exact ⟨Nat.one_le_iff_ne_zero.2 hlevel, Nat.le_max_left _ _, Nat.le_max_left _ _⟩

theorem recordSerial_runOf (s : State) (p : Port) (t : Text) (q : Port) :
    (s.recordSerial p t).runOf q = s.runOf q :=
  congrArg (Vector.get · q) (congrArg Ledger.runs (recordSerial_ledger s p t))

theorem recordSerial_state (s : State) (p : Port) (t : Text) (q : Port) :
    ((s.recordSerial p t).record q).state = (s.record q).state := by
  have e : ∀ u : State, ({ u with ret := { u.ret with serials := u.ret.serials.set p (some t) } } :
      State).record q = u.record q := fun _ => rfl
  unfold State.recordSerial
  rw [e]
  split_ifs
  · by_cases hq : q = p <;> simp [hq]
  · rfl

theorem State.PortsSound.takeAnnounce (h : s.PortsSound) (ha : (s.record p).state.attached = true)
    (fs : List Text) : (takeAnnounce p fs s).1.PortsSound := by
  unfold Machine.takeAnnounce
  split
  · exact h
  · rename_i a hfields
    split_ifs with hl _ hr
    · exact h
    · exact h
    · exact h
    · obtain ⟨hlevel, hmax, hblock⟩ := announceFields_sound hfields
      have ht := h.recordSerial (p := p) a.serial
      have resolved := fun r => ht.resolve (p := p) (r := r) (by rw [recordSerial_state]; exact ha)
        (by rw [recordSerial_runOf]; simpa using hr)
      have ho := h.offer (by simpa using hl)
      unfold State.attach
      dsimp only
      split_ifs with hc
      · exact portsSound_shaped.post _ _ (resolved _ (.inl ⟨rfl, rfl⟩))
      · exact portsSound_shaped.post _ _ (resolved _ (.inr ⟨_, rfl, rfl,
          resolveProfile_sound ho hlevel hmax hblock hc⟩))

theorem State.PortsSound.route (h : s.PortsSound) (ha : (s.record p).state.attached = true) (f : Frame) :
    (route p f s).1.PortsSound := by
  have k := portsSound_shaped
  unfold Machine.route
  split_ifs
  · exact h.takeAnnounce ha _
  · exact h
  · exact h.takeRun _
  · exact h
  · exact k.takeDone _ h
  · exact h
  · exact k.takeStop _ h
  · exact h

end

end Sys2Proof.Machine

/-! SUPPORT. What a line event leaves of a Port's Run, and the settling of O7. -/

namespace Sys2Proof.Machine

open State

section

variable {s t : State} {p : Port}

/-! ### The closure at a line event (R82, R117, R118) -/

/-- A Port with no Run has none after any update of the accounts or of a line. -/
theorem runOf_none_shaped (p : Port) : Shaped fun t => t.runOf p = none :=
  .of_mono fun s t _ _ _ _ _ hr h => by
    have := mt (hr p)
    simpa [h] using this

@[simp] theorem closeSilently_runOf (s : State) (p : Port) (r : Run) (reason : RunReason) (q : Port) :
    (s.closeSilently p r reason).runOf q = if q = p then none else s.runOf q := by
  simp [State.closeSilently, removeRun, returnReserved]

/-- A line event leaves its Port with no Run (R82). -/
theorem closeAtLine_runOf (s : State) (p : Port) (reason : RunReason) :
    (s.closeAtLine p reason).runOf p = none := by
  unfold closeAtLine
  split
  · split_ifs
    · exact (runOf_none_shaped p).pass (by simp)
    · simp
  · assumption

/-- The laws of the Ports, with those of the Run of one Port left out, whose closure is to come. -/
structure State.PortsSoundBut (s : State) (p : Port) : Prop where
  offer : s.lockMark = false → s.ret.offer.Sound
  port : ∀ q, q ≠ p → (s.shape q).Sound
  but : ({ s.shape p with hasRun := false } : Shape).Sound

theorem portsSoundBut_shaped (p : Port) : Shaped fun t => t.PortsSoundBut p :=
  .of_mono fun s t hm ho hs hp hl hr h =>
    { offer := by rw [hm, ho]; exact h.offer
      port := fun q e => (h.port q e).mono (hs q) (hp q) (hl q) (hr q)
      but := h.but.mono (hs p) (hp p) (hl p) nofun }

theorem State.PortsSoundBut.closed (h : s.PortsSoundBut p) (hr : s.runOf p = none) : s.PortsSound where
  offer := h.offer
  port := fun q => by
    by_cases e : q = p
    · rw [e]
      have := h.but
      rw [show s.shape p = { s.shape p with hasRun := false } by simp [shape, hr]]
      exact this
    · exact h.port q e

/-- A Port taken to another state at a line event, its Run being closed with it. -/
theorem State.PortsSound.closeAtLine (h : s.PortsSound) {r : PortRecord} {m : Mlu} (reason : RunReason)
    (hr : (⟨r.state, r.profile, m.lineUp, false⟩ : Shape).Sound) :
    (((s.setMlu p m).setRecord p r).closeAtLine p reason).PortsSound := by
  have hleft : ((s.setMlu p m).setRecord p r).PortsSoundBut p :=
    ⟨h.offer, fun q e => by simpa [shape, e] using h.port q, by simpa [shape] using hr⟩
  exact ((portsSoundBut_shaped p).closeAtLine reason hleft).closed (closeAtLine_runOf _ p reason)

/-- The shape of a Port with no Profile and no Run, UNANNOUNCED with its line up or ABSENT with it down. -/
theorem shape_sound_of_bare {st : PortState} {up : Bool} (h : (st = .unannounced ∧ up = true) ∨
    (st = .absent ∧ up = false) ∨ st = .loopback) : (⟨st, none, up, false⟩ : Shape).Sound := by
  obtain ⟨rfl, rfl⟩ | ⟨rfl, rfl⟩ | rfl := h <;>
    exact ⟨nofun, by simp, nofun, by simp, by simp [PortState.attached]⟩

theorem detectBreak_lineUp (s : State) (p : Port) : ((s.detectBreak p).mlu p).lineUp = (s.mlu p).lineUp := by
  unfold detectBreak
  dsimp only
  split <;> simp [Mlu.beginNext]

theorem State.PortsSound.takeMeterReset (h : s.PortsSound) (ha : (s.record p).state.attached = true)
    (c : ResetCause) : (s.takeMeterReset p c).PortsSound := by
  have k := portsSound_shaped
  have hup : ((s.detectBreak p).mlu p).lineUp = true :=
    (detectBreak_lineUp s p).trans ((h.port p).attached ha)
  have closed := (k.detectBreak (p := p) h).closeAtLine (p := p) (m := ((s.detectBreak p).mlu p).discard)
    (r := { (s.detectBreak p).record p with state := .unannounced, profile := none }) .meterreset
    (shape_sound_of_bare (.inl ⟨rfl, hup⟩))
  exact k.post _ _ (k.latch _ closed)

theorem State.PortsSound.takeLineDown (h : s.PortsSound) : (s.takeLineDown p).PortsSound := by
  have k := portsSound_shaped
  have closed := (k.detectBreak (p := p) h).closeAtLine (p := p)
    (m := { ((s.detectBreak p).mlu p).discard with lineUp := false, drivingBreak := false })
    (r := { (s.detectBreak p).record p with lineGood := false, state := .absent, profile := none }) .linedown
    (shape_sound_of_bare (.inr (.inl ⟨rfl, rfl⟩)))
  exact k.post _ _ closed

/-- A Port stored with another record and line-up flag. -/
theorem State.PortsSound.setBoth (h : s.PortsSound) {m : Mlu} {r : PortRecord}
    (hr : (⟨r.state, r.profile, m.lineUp, (s.runOf p).isSome⟩ : Shape).Sound) :
    ((s.setMlu p m).setRecord p r).PortsSound :=
  h.update (p := p) rfl rfl (fun q e => by simp [shape, e]) (by simpa [shape] using hr)

theorem State.PortsSound.bare (h : s.PortsSound) (hs : (s.record p).state ≠ .ready) :
    (s.record p).profile = none ∧ (s.runOf p).isSome = false := by
  refine ⟨?_, by rw [h.runOf_none hs]; rfl⟩
  have := mt (h.port p).ready.2 hs
  simpa [shape] using this

theorem portsSound_meterKept : MeterKept State.PortsSound where
  post := portsSound_shaped.post
  record := portsSound_shaped.record
  mlu := fun s p m _ => portsSound_shaped.mlu s p m
  marking := fun _ _ _ h => h.congr rfl rfl rfl rfl rfl
  compose := fun _ _ f h => portsSound_shaped.compose f h
  route := fun _ _ f ha h => h.route ha f
  closeHeld := fun _ _ _ _ _ _ _ h => portsSound_shaped.closeUnasked _ _ h
  closeWaiting := fun _ _ _ _ _ _ _ h => portsSound_shaped.pass (portsSound_shaped.closeUnasked _ _ h)
  reset := fun _ _ c ha h => h.takeMeterReset ha c
  down := fun _ _ _ h => h.takeLineDown
  loopLine := fun s p b hl h => by
    obtain ⟨hp, hr⟩ := h.bare (p := p) (by simp [hl])
    have := h.setBoth (p := p) (m := { s.mlu p with lineUp := b }) (r := s.record p)
      (by rw [hl, hp, hr]; exact shape_sound_of_bare (.inr (.inr rfl)))
    exact this.congr rfl rfl (by simp [setRecord, State.record]) rfl rfl
  up := fun s p ha h => by
    obtain ⟨hp, hr⟩ := h.bare (p := p) (by simp [ha])
    exact h.setBoth (by dsimp only; rw [hp, hr]; exact shape_sound_of_bare (.inl ⟨rfl, rfl⟩))

/-! ### Requests of the host, power -/

theorem State.PortsSound.loopedOn (h : s.PortsSound) (hr : s.runOf p = none) : (s.loopedOn p).PortsSound :=
  h.setBoth (by rw [hr]; exact shape_sound_of_bare (.inr (.inr rfl)))

theorem State.PortsSound.loopedOff (h : s.PortsSound) (hl : (s.record p).state = .loopback) :
    (s.loopedOff p).PortsSound := by
  obtain ⟨hp, hr⟩ := h.bare (p := p) (by simp [hl])
  refine h.setBoth ?_
  change (⟨s.afterLoop p, (s.record p).profile, (s.mlu p).lineUp, _⟩ : Shape).Sound
  rw [hp, hr, afterLoop]
  apply shape_sound_of_bare
  split_ifs with hup <;> simp [hup]

theorem Offer.Sound.stays {o : Offer} (h : s.ret.offer.Sound) (hm : Stays 1 9999 s.ret.offer.maxRun o.maxRun)
    (hb : Stays 1 25 s.ret.offer.block o.block) : o.Sound :=
  ⟨hm.elim (fun e => e ▸ h.1) id, hb.elim (fun e => e ▸ h.2) id⟩

theorem Offer.initial_sound : Offer.initial.Sound := ⟨⟨by decide, by decide⟩, by decide, by decide⟩

theorem portsSound_of_accepts (c : s.Accepts t) (h : s.PortsSound) : t.PortsSound := by
  have k := portsSound_shaped
  have same : ∀ u : State, u.lockMark = s.lockMark → u.ret.offer = s.ret.offer → u.records = s.records →
      u.mlus = s.mlus → u.ret.runs = s.ret.runs → u.PortsSound := fun _ => h.congr
  cases c
  case refilled => exact k.pass (k.post _ _ (same _ rfl rfl rfl rfl rfl))
  case withdrawn => exact k.post _ _ (same _ rfl rfl rfl rfl rfl)
  case spoilRefunded => exact k.pass (k.post _ _ (same _ rfl rfl rfl rfl rfl))
  case recalled => exact k.pass (same _ rfl rfl rfl rfl rfl)
  case levels => exact k.lowMarkCheck (k.funds _ _ _ h)
  case activated => exact k.post _ _ (same _ rfl rfl rfl rfl rfl)
  case closeWaiting => exact k.pass (k.closeUnasked _ _ h)
  case closeOwed => exact k.closeUnasked _ _ h
  case cancelling hr _ => exact k.runSome hr _ h
  case halted hr _ => exact k.sendUnasked _ (k.runSome hr _ h)
  case returned => exact k.pass (same _ rfl rfl rfl rfl rfl)
  case counted => exact k.post _ _ (same _ rfl rfl rfl rfl rfl)
  case offer o hm hb => exact ⟨fun hl => (h.offer hl).stays hm hb, h.port⟩
  case suspendWaiting => exact k.pass (k.closeUnasked _ _ (same _ rfl rfl rfl rfl rfl))
  case record hs hp => exact k.record _ _ _ hs hp h
  case meterreset ha => exact k.mlu _ _ _ rfl (h.takeMeterReset ha _)
  case loopedOn hr => exact h.loopedOn hr
  case loopedOff hl => exact h.loopedOff hl
  case startTest => exact portsSound_meterKept.startTest _ h
  case reinit =>
    refine ⟨fun _ => Offer.initial_sound, fun q => (h.port q).mono rfl rfl rfl ?_⟩
    simp [shape, reinitialised, State.runOf, Retained.initial, Vector.get_eq_getElem]
  all_goals exact same _ rfl rfl rfl rfl rfl

/-- A start-up samples each line: its Port is UNANNOUNCED on a line that marks and ABSENT on another
(R136). -/
theorem startFrom_shape (s : State) (c : Cause) (pins : Pins) (p : Port) : (s.startFrom c pins).shape p =
    ⟨if pins.marking.get p then .unannounced else .absent, none, pins.marking.get p, false⟩ := by
  have hrecord : (s.startFrom c pins).record p = PortRecord.atStart (pins.marking.get p) :=
    perPort_get (fun p => PortRecord.atStart (pins.marking.get p)) p
  have hmlu : (s.startFrom c pins).mlu p = Mlu.atStart (pins.marking.get p) :=
    perPort_get (fun p => Mlu.atStart (pins.marking.get p)) p
  have hrun : (s.startFrom c pins).runOf p = none := by
    change s.ret.restarted.runs.get p = none
    simp [Retained.restarted, Vector.get_eq_getElem]
  rw [shape, hrecord, hmlu, hrun]
  rfl

theorem portsSound_kept : Kept State.PortsSound where
  toMeterKept := portsSound_meterKept
  host := fun _ _ _ h => h.congr rfl rfl rfl rfl rfl
  perform := fun s v fs _ h t r e => portsSound_of_accepts (perform_accepts v fs s t r e) h
  start := fun s c pins _ h => by
    refine ⟨h.offer, fun p => ?_⟩
    rw [startFrom_shape]
    apply shape_sound_of_bare
    split_ifs with hm <;> simp [hm]
  stop := fun s heldUp a b h => by
    refine h.mono rfl rfl (fun _ => rfl) (fun _ => rfl) (fun q => ?_) fun _ => id
    change ((perPort fun p => (s.mlu p).halted).get q).lineUp = _
    rw [perPort_get]
    rfl

end

/-- Settles O7: the record of a Port changes at an announcement, at the Basic Profile, at its line's events,
and at LOOP, each of which leaves a state that its Profile, its line and its Run agree with. -/
theorem runsStayOnReadyPorts : Obligations.RunsStayOnReadyPorts := by
  intro s t e h
  have h := portsSound_iff.2 h
  refine portsSound_iff.1 (portsSound_kept.step e h (fun _ => h.congr rfl rfl rfl rfl rfl) fun _ => ?_)
  unfold lockContents
  split_ifs
  · exact h.congr rfl rfl rfl rfl rfl
  · refine ⟨nofun, fun q => (h.port q).mono rfl rfl rfl ?_⟩
    simp [shape, State.runOf, Retained.locked, Retained.initial, Vector.get_eq_getElem]

end Sys2Proof.Machine

/-! SUPPORT. The step, the state after reset, and a part that has stopped (O1 to O4). -/

namespace Sys2Proof.Machine

open State

/-- Settles O1. -/
theorem stepRunsFrontCommand : Obligations.StepRunsFrontCommand :=
  ⟨fun s c rest h => by rw [step, h], fun s h => by rw [step, h]⟩

/-! ### The state after reset -/

theorem reset_blank : State.reset.ret.Blank := initial_blank

theorem reset_mlu (p : Port) : State.reset.mlu p = Mlu.atStart false := by
  simp [mlu, State.reset, Vector.get_eq_getElem]

theorem reset_record (p : Port) : State.reset.record p = PortRecord.atStart false := by
  simp [record, State.reset, Vector.get_eq_getElem]

theorem reset_runOf (p : Port) : State.reset.runOf p = none := by
  simp [runOf, State.reset, Retained.initial, Vector.get_eq_getElem]

theorem reset_fundsOf (p : Port) : State.reset.fundsOf p = PortFunds.initial := by
  simp [fundsOf, State.reset, Retained.initial, Vector.get_eq_getElem]

theorem reset_headHeld : State.reset.HeadHeld := headHeld_of_blank rfl reset_runOf

theorem reset_accounts : State.reset.Accounts where
  balanced := reset_blank.balanced
  ports := reset_blank.portSound
  owed := fun p => by simp [OwedSound, reset_mlu, Mlu.atStart]
  queue := reset_headHeld.queue

theorem reset_portsSound : State.reset.PortsSound where
  offer := fun _ => Offer.initial_sound
  port := fun p => by
    rw [shape, reset_record, reset_mlu, reset_runOf]
    exact shape_sound_of_bare (.inr (.inl ⟨rfl, rfl⟩))

theorem reset_tablesSound : State.reset.TablesSound where
  current := RateTable.empty_sound
  next := RateTable.empty_sound
  unnumbered := fun _ => rfl
  numbered := fun h => absurd rfl h
  differ := fun h => absurd rfl h

theorem reset_levelsSound (p : Port) : (State.reset.fundsOf p).LevelsSound := by
  rw [reset_fundsOf]
  constructor <;> decide

theorem reset_inRange : State.reset.InRange := by constructor <;> decide

theorem reset_buffersBounded : State.reset.BuffersBounded where
  notices := by decide
  hold := by decide
  inputs := fun p => by rw [reset_mlu]; decide

/-- Settles O2. -/
theorem resetSatisfiesLaws : Obligations.ResetSatisfiesLaws := by
  obtain ⟨hruns, hprofiles, hlines⟩ := portsSound_iff.1 reset_portsSound
  exact ⟨reset_accounts, reset_headHeld.head, hruns, hprofiles, hlines, reset_tablesSound, reset_levelsSound,
    reset_inRange, reset_blank.stockSound, reset_buffersBounded, nofun⟩

/-! ### The queue of commands -/

section

variable {s t : State}

theorem pending_steady (l : List Instr) : Steady fun t => t.pending = l where
  post := fun _ _ h => by simpa using h
  record := fun _ _ _ h => h
  mlu := fun _ _ _ _ h => h
  marking := fun _ _ _ h => h
  funds := fun _ _ _ _ h => h
  run := fun _ _ _ h => h
  runId := fun _ _ _ h => h
  queue := fun _ _ h => h
  serial := fun _ _ _ h => h
  pool := fun _ _ _ h => h

/-- A request leaves the queue of commands alone. -/
theorem pending_of_accepts (c : s.Accepts t) : t.pending = s.pending := by
  have k := pending_steady s.pending
  cases c
  case refilled => exact k.pass (k.post _ _ rfl)
  case withdrawn => exact k.post _ _ rfl
  case spoilRefunded => exact k.pass (k.post _ _ rfl)
  case recalled | returned => exact k.pass rfl
  case levels => exact k.lowMarkCheck rfl
  case activated => exact k.post _ _ rfl
  case closeWaiting | suspendWaiting => exact k.pass (k.closeUnasked _ _ rfl)
  case closeOwed => exact k.closeUnasked _ _ rfl
  case halted => exact k.sendUnasked _ rfl
  case counted => exact k.post _ _ rfl
  case meterreset => exact k.takeMeterReset _ rfl
  all_goals rfl

theorem pending_kept (l : List Instr) : Kept fun t => t.pending = l where
  toMeterKept := (pending_steady l).meterKept
  host := fun _ _ _ h => h
  perform := fun s v fs _ h t r e => (pending_of_accepts (perform_accepts v fs s t r e)).trans h
  start := fun _ _ _ _ h => h
  stop := fun _ _ _ _ h => h

theorem exec_next (c : Instr) (s : State) : ∃ t, exec c s = .next t := by cases c <;> exact ⟨_, rfl⟩

/-- Settles O3: every command is one of the events that leave the queue of commands alone. -/
theorem commandsNeverStop : Obligations.CommandsNeverStop := by
  intro c s
  obtain ⟨t, e⟩ := exec_next c s
  refine ⟨t, e, (pending_kept s.pending).exec rfl (fun _ _ _ => ?_) e⟩
  unfold lockContents
  split_ifs <;> rfl

/-- Settles O4: every command but the start-up is an event of the running part. -/
theorem stoppedPartTakesNoEvent : Obligations.StoppedPartTakesNoEvent := by
  intro c s h hc
  cases c
  case startUp pins failed => exact absurd rfl (hc pins failed)
  all_goals exact congrArg Host.Outcome.next (if_neg (by simp [h]))

end

end Sys2Proof.Machine

/-! SUPPORT. The host line: the checks before a request's block, its one reply, the Host Input Hold, breaks,
faulty frames and the receivers' timers (O18 to O24). -/

namespace Sys2Proof.Machine

open State

section

variable {s : State}

theorem during_running (h : s.power = .running) (f : State → State) : s.during f = .next (f s) := by
  rw [during, if_pos h]

/-! ### The checks of a request before its block's own (R152) -/

/-- A request taken at once has its outcome and its reply (R149). -/
theorem exec_hostFree {i : Instr} {v : HostVerb} {fs : List Text} (hi : hostRequest i = some (v, fs))
    (h : s.HostFree) : exec i s =
      .next ((answerRequest ⟨v.text, fs⟩ s).1.reply (answerRequest ⟨v.text, fs⟩ s).2) := by
  rw [exec_of_hostRequest hi, request, during_running h.running, requestArrives_free h]

/-- What the checks of R152 make of a request with a known verb. -/
theorem answerRequest_verb (v : HostVerb) (fs : List Text) (s : State) : answerRequest ⟨v.text, fs⟩ s =
    if s.lockMark && !v.servedLocked then (s, .no v .locked 0 none)
    else if fs.length ≠ v.fieldCount then (s, .no v .fields 0 none)
    else match perform v fs s with
      | .error e => (s, .no v e.word e.pos e.extra)
      | .ok r => r := by
  simp only [answerRequest, verbOf_text] <;> rfl

theorem not_servedLocked {v : HostVerb} (hs : v ≠ .status) (hr : v ≠ .reinit) : v.servedLocked = false := by
  cases v <;> simp_all [HostVerb.servedLocked]

/-- A first field that must be a number and is none is refused before anything else of the block (R153). -/
theorem perform_format {v : HostVerb} {digits : Nat} {fs : List Text} (hv : v.firstDigits = some digits)
    (h : readNumber digits (fieldAt fs 1) = none) (s : State) :
    perform v fs s = .error ⟨.format, 1, none⟩ := by
  have hnumber := number_of_none h
  cases v <;> cases hv
  case line | receive | sell | returnStock | count | stockrep =>
    simp only [perform, lineRequest, receiveRequest, sellRequest, returnRequest, countRequest,
      stockrepRequest, lineField, hnumber, error_bind]
  all_goals
    simp only [perform, refillRequest, withdrawRequest, spoilrefRequest, recallRequest, levelsRequest,
      limitsRequest, portfundsRequest, bandRequest, tierRequest, editionRequest, activateRequest,
      cancelRequest, discrepRequest, suspendRequest, resumeRequest, portrepRequest, meterresetRequest,
      loopRequest, linetestRequest, hnumber, error_bind]

/-- Settles O18: the four checks in their order, each from the outcome of a request taken at once. -/
theorem requestChecksBeforeBlock : Obligations.RequestChecksBeforeBlock := by
  refine ⟨fun s verb fields h hv => ?_, fun i v fields s hi h => ⟨fun hl hs hr => ?_, fun hserved hn => ?_,
    fun digits hl hn hd hf => ?_⟩⟩
  · change s.during _ = _
    rw [during_running h.running, requestArrives_free h, answerRequest, hv]
    rfl
  · rw [exec_hostFree hi h, answerRequest_verb, hl, not_servedLocked hs hr]
    rfl
  · have hserved : (s.lockMark && !v.servedLocked) = false := by
      obtain hl | rfl | rfl := hserved
      · simp [hl]
      · simp [HostVerb.servedLocked]
      · simp [HostVerb.servedLocked]
    rw [exec_hostFree hi h, answerRequest_verb, hserved, if_pos hn]
    rfl
  · rw [exec_hostFree hi h, answerRequest_verb, hl, if_neg (not_not.2 hn), perform_format hd hf]
    rfl

/-! ### One reply to each request (R154) -/

/-- The reply to a request carried out: OK, or ADJ with the position of a field, for the request's verb. -/
def HostReply.Settles (v : HostVerb) (r : HostReply) : Prop :=
  (∃ figures, r = .ok v figures) ∨ ∃ pos figures, 1 ≤ pos ∧ r = .adj v pos figures

/-- What holds of the reply of an accepted request. -/
def Answers (x : Answered) (v : HostVerb) : Prop := ∀ t r, x = .ok (t, r) → r.Settles v

section

variable {v : HostVerb}

theorem answers_ok (t : State) (figures : List Figure) : Answers (.ok (t, .ok v figures)) v := by
  rintro _ _ ⟨⟩
  exact .inl ⟨figures, rfl⟩

theorem answers_error (e : Refused) : Answers (.error e) v := by
  intro _ _ h
  cases h

theorem answers_bind {α : Type} {x : Checked α} {f : α → Answered} (h : ∀ a, Answers (f a) v) :
    Answers (x >>= f) v := by
  intro t r e
  obtain ⟨a, -, hf⟩ := (bind_eq_ok x f (t, r)).1 e
  exact h a t r hf

/-- A position that `firstAdjusted` finds is one of those listed. -/
theorem firstAdjusted_mem {l : List (Nat × Bool)} {pos : Nat} (h : firstAdjusted l = some pos) :
    ∃ b, (pos, b) ∈ l := by
  induction l with
  | nil => cases h
  | cons a l ih =>
    obtain ⟨i, b⟩ := a
    cases b with
    | true => cases h; exact ⟨true, List.mem_cons_self⟩
    | false =>
      obtain ⟨b, hb⟩ := ih h
      exact ⟨b, List.mem_cons_of_mem _ hb⟩

/-- A reply with the fields that were clamped at positions from 1 (R154). -/
theorem answers_settled (t : State) {l : List (Nat × Bool)} (figures : List Figure)
    (hl : ∀ e ∈ l, 1 ≤ e.1) : Answers (.ok (t, settled v (firstAdjusted l) figures)) v := by
  rintro _ _ ⟨⟩
  cases hf : firstAdjusted l with
  | none => exact .inl ⟨figures, rfl⟩
  | some pos =>
    obtain ⟨b, hb⟩ := firstAdjusted_mem hf
    exact .inr ⟨pos, figures, hl _ hb, rfl⟩

end

/-- Each block answers a request it accepts OK or ADJ, with the request's verb (R154). -/
theorem perform_answers (v : HostVerb) (fs : List Text) (s : State) : Answers (perform v fs s) v := by
  cases v <;> unfold perform
  case levels =>
    unfold levelsRequest
    repeat' refine answers_bind fun _ => ?_
    exact answers_settled _ _ (by simp)
  case limits =>
    unfold limitsRequest
    repeat' refine answers_bind fun _ => ?_
    exact answers_settled _ _ (by simp)
  case offer =>
    unfold offerRequest
    repeat' refine answers_bind fun _ => ?_
    exact answers_settled _ _ (by simp)
  case band =>
    unfold bandRequest
    repeat' refine answers_bind fun _ => ?_
    split
    · exact answers_ok _ _
    · repeat' refine answers_bind fun _ => ?_
      exact answers_settled _ _ (by simp)
  case tier =>
    unfold tierRequest
    repeat' refine answers_bind fun _ => ?_
    split
    · repeat' refine answers_bind fun _ => ?_
      exact answers_ok _ _
    · repeat' refine answers_bind fun _ => ?_
      exact answers_settled _ _ (by simp)
  case activate =>
    unfold activateRequest
    repeat' refine answers_bind fun _ => ?_
    split_ifs
    · exact answers_error _
    · exact answers_bind fun _ => answers_ok _ _
  case quote =>
    unfold quoteRequest
    repeat' refine answers_bind fun _ => ?_
    split
    · exact answers_bind fun _ => answers_error _
    · repeat' refine answers_bind fun _ => ?_
      split
      · exact answers_error _
      · exact answers_ok _ _
  case cancel =>
    unfold cancelRequest
    repeat' refine answers_bind fun _ => ?_
    split_ifs <;> exact answers_ok _ _
  case suspend =>
    unfold suspendRequest
    repeat' refine answers_bind fun _ => ?_
    split <;> exact answers_ok _ _
  case meterreset =>
    unfold meterresetRequest
    repeat' refine answers_bind fun _ => ?_
    split_ifs <;> exact answers_ok _ _
  case loop =>
    unfold loopRequest
    repeat' refine answers_bind fun _ => ?_
    split_ifs <;>
    · repeat' refine answers_bind fun _ => ?_
      exact answers_ok _ _
  all_goals
    simp only [refillRequest, withdrawRequest, spoilrefRequest, recallRequest, portfundsRequest,
      surchRequest, raterepRequest, editionRequest, lineRequest, receiveRequest, sellRequest,
      returnRequest, countRequest, stockrepRequest, discrepRequest, resumeRequest, portrepRequest,
      linetestRequest, reinitRequest]
    repeat' refine answers_bind fun _ => ?_
    exact answers_ok _ _

/-- Settles O19: the checks refuse with the state as it was, and a block refuses so too or answers OK or ADJ
with the slots as they were. -/
theorem repliesAreOkAdjOrNo : Obligations.RepliesAreOkAdjOrNo := by
  intro i v fields s hi h
  rw [exec_hostFree hi h]
  have hslots := (answerRequest_hold ⟨v.text, fields⟩ s).2
  rw [answerRequest_verb] at hslots ⊢
  split_ifs at hslots ⊢
  · exact .inl ⟨_, _, _, rfl⟩
  · exact .inl ⟨_, _, _, rfl⟩
  · cases hp : perform v fields s with
    | error e => exact .inl ⟨_, _, _, rfl⟩
    | ok r =>
      rw [hp] at hslots
      obtain ⟨figures, hr⟩ | ⟨pos, figures, hpos, hr⟩ := perform_answers v fields s r.1 r.2 hp
      · exact .inr (.inl ⟨r.1, figures, by rw [← hr], hslots⟩)
      · exact .inr (.inr ⟨r.1, pos, figures, hpos, by rw [← hr], hslots⟩)

/-! ### The Host Input Hold (R148, R149) -/

theorem mayTake_eq_false : s.mayTake = false ↔
    s.host.slots.hasFree = false ∨ s.host.restartPending ≠ none := by
  rw [mayTake, Bool.and_eq_false_iff]
  simp [Option.ne_none_iff_isSome]

/-- With no slot free, or a restart pending, no request is taken. -/
theorem takeHeld_of_not_mayTake (h : s.mayTake = false) (n : Nat) : takeHeld n s = s := by
  cases n with
  | zero => rfl
  | succ n =>
    rw [takeHeld, h]
    split <;> rfl

/-- With no request held none is taken. -/
theorem takeHeld_of_empty (h : s.host.hold = []) (n : Nat) : takeHeld n s = s := by
  cases n with
  | zero => rfl
  | succ n => rw [takeHeld, h]

/-- Settles O20. -/
theorem requestWaitsOrIsLost : Obligations.RequestWaitsOrIsLost := by
  intro i v fields s hi hrun hfull
  rw [exec_of_hostRequest hi, request, during_running hrun, requestArrives]
  constructor
  · intro h
    rw [if_pos (show s.host.hold.length < Config.holdMax from h)]
    refine congrArg Host.Outcome.next (takeHeld_of_not_mayTake ?_ _)
    exact mayTake_eq_false.2 hfull
  · intro h
    rw [if_neg (show ¬ s.host.hold.length < Config.holdMax from Nat.not_lt.2 h)]
    rfl

/-- With one slot free the oldest held request is taken, and fills it. -/
theorem takeHeld_of_one {f : Frame} {rest : List Frame} {a : SlotName} {g : HostReply}
    (hhold : s.host.hold = f :: rest) (hs : s.host.slots = .one a g) (hp : s.host.restartPending = none)
    (n : Nat) : takeHeld (n + 1) s = (s.setHost { s.host with hold := rest }).takeRequest f := by
  have hmay : s.mayTake = true := by simp [mayTake, hs, hp, Slots.hasFree]
  have hfull : ((s.setHost { s.host with hold := rest }).takeRequest f).mayTake = false := by
    rw [mayTake_eq_false]
    left
    simp [takeRequest, reply, (answerRequest_hold f _).2, hs, Slots.put, Slots.hasFree]
  rw [takeHeld, hhold]
  simp only [hmay, if_true]
  exact takeHeld_of_not_mayTake hfull n

/-- Settles O21: the freed slot is all that changes, but for the oldest held request when both slots were
full and no restart is pending. -/
theorem freedHostSlotTakesHeldRequest : Obligations.FreedHostSlotTakesHeldRequest := by
  intro s r hrun hfirst
  change (_ → _ → s.during hostSlotFrees = _) ∧ (∀ f rest, _ → _ → _ → s.during hostSlotFrees = _) ∧
    (_ → _ → s.during hostSlotFrees = _)
  rw [during_running hrun, hostSlotFrees, hfirst]
  dsimp only
  refine ⟨fun hhold hp => ?_, fun f rest hhold hfull hp => ?_, fun hp hr => ?_⟩
  · rw [hp, Option.isSome_none, Bool.and_false, if_neg Bool.false_ne_true]
    refine congrArg Host.Outcome.next (takeHeld_of_empty ?_ _)
    exact hhold
  · rw [hp, Option.isSome_none, Bool.and_false, if_neg Bool.false_ne_true]
    cases hs : s.host.slots with
    | empty | one => simp [hs, Slots.hasFree] at hfull
    | two a g g' =>
      refine congrArg Host.Outcome.next (takeHeld_of_one (a := a.other) (g := g') ?_ ?_ ?_ 1)
      · exact hhold
      · rfl
      · rfl
  · rw [hr, Bool.false_and, if_neg Bool.false_ne_true]
    refine congrArg Host.Outcome.next (takeHeld_of_not_mayTake ?_ _)
    exact mayTake_eq_false.2 (.inr hp)

/-! ### Breaks and the frames of the host line (R150, R151) -/

/-- Settles O22: with no restart pending, the break writes the Host Line Unit alone. -/
theorem hostBreakDiscardsUnsentReplies : Obligations.HostBreakDiscardsUnsentReplies := by
  intro s begun hrun hp
  change s.during (hostBreaks begun) = _
  rw [during_running hrun, hostBreaks]
  dsimp only
  rw [setHost_host]
  dsimp only
  rw [hp, Option.isSome_none, Bool.false_and, if_neg Bool.false_ne_true]
  have hslots : s.host.slots.keepBegun (s.host.begun || begun) = match s.host.slots with
      | .empty n => .empty n
      | .one a r => if s.host.begun = true ∨ begun = true then .one a r else .empty a
      | .two a r _ => if s.host.begun = true ∨ begun = true then .one a r else .empty .A := by
    cases s.host.slots <;> simp [Slots.keepBegun]
  have hbegun : ((s.host.begun || begun) && (s.host.slots.keepBegun (s.host.begun || begun)).first.isSome) =
      ((s.host.begun || begun) && s.host.slots.first.isSome) := by
    cases s.host.slots <;> cases (s.host.begun || begun) <;> rfl
  rw [hbegun, hslots]
  rfl

/-- A host frame that ends faulty is latched, and answered FRAME when a slot is free and no restart is
pending (R150). -/
theorem hostFault_eq (s : State) (r : FaultReason) : s.hostFault r =
    if s.host.slots.hasFree = true ∧ s.host.restartPending = none then
      s.latchHostFrameError.reply (.frame r) else s.latchHostFrameError := by
  have e : s.latchHostFrameError.mayTake = true ↔
      s.host.slots.hasFree = true ∧ s.host.restartPending = none := by
    simp [mayTake, latchHostFrameError]
  unfold hostFault
  dsimp only
  simp only [e]

/-- A fault found at the host receiver in COLLECT ends its frame (R130, R150). -/
theorem hostReceives_fault {body : Text} {atSpace : Bool} (h : s.host.rx = .collect body atSpace)
    (reason : FaultReason) : s.hostReceives (Receiver.fault reason) =
      if s.host.slots.hasFree = true ∧ s.host.restartPending = none then
        ({ s with host := { s.host with rx := .idleWait, frameError := true } } : State).reply (.frame reason)
      else { s with host := { s.host with rx := .idleWait, frameError := true } } := by
  have e : s.hostReceives (Receiver.fault reason) =
      (s.setHost { s.host with rx := .idleWait }).hostFault reason := by
    unfold hostReceives
    rw [h]
    rfl
  rw [e, hostFault_eq]
  rfl

/-- A Host Line Unit stays free when its receiver changes. -/
theorem State.HostFree.setRx (h : s.HostFree) (r : Receiver) :
    (s.setHost { s.host with rx := r }).HostFree := ⟨h.running, h.hold, h.slot, h.pending⟩

/-- Settles O23. -/
theorem hostFrameEnds : Obligations.HostFrameEnds := by
  constructor
  · intro s body h hrx hclose hagrees
    change s.during _ = _
    have hframe : s.hostReceives Receiver.complete =
        (s.setHost { s.host with rx := .ready }).requestArrives (frameOf (bodyContent body)) := by
      unfold hostReceives
      rw [hrx]
      simp only [Receiver.complete, hclose, hagrees, Bool.and_self, if_true, closeFrame, terminate,
        Termination.next]
    rw [during_running h.running, hframe, requestArrives_free (h.setRx .ready)]
    rfl
  · intro s body atSpace reason hrun hrx hparity hbreak
    change execHostFrameError reason s = _
    rw [execHostFrameError, during_running hrun, if_neg (not_or.2 ⟨hparity, hbreak⟩), hostReceives_fault hrx]

/-! ### The timers of the receivers (R126, R130) -/

/-- A fault found at an attached Port's receiver in COLLECT latches LINE-ERROR (R130, R132). -/
theorem meterReceives_fault {p : Port} {body : Text} {atSpace : Bool}
    (ha : (s.record p).state.attached = true) (h : (s.mlu p).rx = .collect body atSpace)
    (reason : FaultReason) : s.meterReceives p (Receiver.fault reason) =
      (s.setMlu p { s.mlu p with rx := .idleWait }).setRecord p { s.record p with
        latched := { (s.record p).latched with lineError := true }, lastError := some reason } := by
  have hl : (s.record p).state ≠ .loopback := fun e => by simp [e, PortState.attached] at ha
  have e : s.meterReceives p (Receiver.fault reason) =
      (s.setMlu p { s.mlu p with rx := .idleWait }).frameEnds p (.fault reason) := by
    unfold meterReceives
    rw [hears, ha, h]
    rfl
  rw [e, frameEnds, setMlu_record, if_neg hl]
  simp [latchLineError, latch, Latches.add]

/-- Settles O24: the idle gap moves a receiver to READY, and each limit is a fault found in COLLECT. -/
theorem receiverTimers : Obligations.ReceiverTimers := by
  refine ⟨fun s hrun hrx => ?_, fun s body atSpace hrun hrx hfull => ?_,
    fun s body atSpace hrun hrx hfree => ?_, fun s p hrun ha hrx => ?_,
    fun s p body atSpace hrun ha hrx => ?_⟩
  · change s.during _ = _
    rw [during_running hrun, hrx]
    rfl
  · constructor <;>
    · change s.during (receives .host _) = _
      rw [during_running hrun, receives, hostReceives_fault hrx, if_neg (by simp [hfull])]
  · refine ⟨fun hp => ?_, fun hp => ?_⟩
    · constructor <;>
      · change s.during (receives .host _) = _
        rw [during_running hrun, receives, hostReceives_fault hrx, if_pos ⟨hfree, hp⟩]
    · constructor <;>
      · change s.during (receives .host _) = _
        rw [during_running hrun, receives, hostReceives_fault hrx, if_neg (fun e => hp e.2)]
  · change s.during _ = _
    rw [during_running hrun, meterIdleGap, ha, Bool.true_or, if_pos rfl, hrx]
    rfl
  · constructor <;>
    · change s.during (receives (.meter p) _) = _
      rw [during_running hrun, receives, meterReceives_fault ha hrx]

end

end Sys2Proof.Machine

/-! SUPPORT. Numbers and frames written by the part are read back by it (R127, R128, R173, R174; O15 to
O17). -/

namespace Sys2Proof.Machine

open State

/-! ### Decimal numbers (R174) -/

theorem digitValue_digitChar {d : Nat} (h : d < 10) : digitValue (digitChar d) = some d := by
  have hd : (digitChar d).toNat = 48 + d := by
    rw [digitChar, BitVec.toNat_ofNat]
    omega
  rw [digitValue, hd, if_pos (by omega)]
  simp

/-- The digits written before a text are read as the number, and the text after them. -/
theorem digitsValue_writeDigits (fuel : Nat) :
    ∀ (n : Nat) (acc : Text), n < 10 ^ (fuel + 1) →
      digitsValue 0 (writeDigits (fuel + 1) n acc) = digitsValue n acc := by
  induction fuel with
  | zero =>
    intro n acc h
    rw [writeDigits, if_pos (by omega), digitsValue, digitValue_digitChar (by omega)]
    simp
  | succ fuel ih =>
    intro n acc h
    rw [writeDigits]
    split_ifs with hn
    · rw [digitsValue, digitValue_digitChar hn]
      simp
    · rw [ih (n / 10) _ (by rw [Nat.div_lt_iff_lt_mul (by decide), ← Nat.pow_succ]; exact h), digitsValue,
        digitValue_digitChar (Nat.mod_lt n (by decide))]
      dsimp only
      rw [Nat.div_add_mod n 10]

/-- A number below ten to the `most` is written in at most `most` digits. -/
theorem writeDigits_length_le (fuel : Nat) :
    ∀ (n most : Nat) (acc : Text), n < 10 ^ (most + 1) →
      (writeDigits fuel n acc).length ≤ acc.length + (most + 1) := by
  induction fuel with
  | zero => intro n most acc _; rw [writeDigits]; omega
  | succ fuel ih =>
    intro n most acc h
    rw [writeDigits]
    split_ifs with hn
    · simp
    · cases most with
      | zero => omega
      | succ most =>
        have hdiv : n / 10 < 10 ^ (most + 1) := by
          rw [Nat.div_lt_iff_lt_mul (by decide), ← Nat.pow_succ]
          exact h
        have := ih (n / 10) most (digitChar (n % 10) :: acc) hdiv
        simp only [List.length_cons] at this
        omega

theorem writeDigits_ne_nil (fuel n : Nat) :
    ∀ acc : Text, acc ≠ [] ∨ fuel ≠ 0 → writeDigits fuel n acc ≠ [] := by
  induction fuel generalizing n with
  | zero => exact fun acc h => h.resolve_right (not_not_intro rfl)
  | succ fuel ih =>
    intro acc _
    rw [writeDigits]
    split_ifs
    · exact List.cons_ne_nil _ _
    · exact ih _ _ (.inl (List.cons_ne_nil _ _))

/-- Settles O17: the digits are read back one by one, and there are as many as the field has room for. -/
theorem writtenNumberIsReadBack : Obligations.WrittenNumberIsReadBack := by
  intro n most h1 h20 hn
  obtain ⟨most, rfl⟩ := Nat.exists_eq_add_of_le' h1
  have hlength := writeDigits_length_le 20 n most [] hn
  have hvalue := digitsValue_writeDigits 19 n [] (hn.trans_le (Nat.pow_le_pow_right (by decide) h20))
  rw [readNumber, decimal, if_neg, hvalue]
  · rfl
  · rw [not_or, Nat.not_lt]
    exact ⟨writeDigits_ne_nil 20 n [] (.inr (by decide)), by simpa using hlength⟩

/-! ### The fields of a frame (R173) -/

theorem splitParts_append {a : Text} (h : separator ∉ a) (cur rest : Text) :
    splitParts cur (a ++ rest) = splitParts (cur ++ a) rest := by
  induction a generalizing cur with
  | nil => simp
  | cons c a ih =>
    obtain ⟨hc, ha⟩ := not_or.1 (mt List.mem_cons.2 h)
    rw [List.cons_append, splitParts, if_neg (Ne.symm hc), ih ha, List.append_assoc]
    rfl

/-- Fields without separators are split as they were joined. -/
theorem splitParts_fields {fs : List Text} (h : ∀ f ∈ fs, separator ∉ f) (cur : Text) :
    splitParts cur (fs.map fun f => separator :: f).flatten = cur :: fs := by
  induction fs generalizing cur with
  | nil => rfl
  | cons f fs ih =>
    rw [List.map_cons, List.flatten_cons, List.cons_append, splitParts, if_pos rfl,
      splitParts_append (h f List.mem_cons_self), List.nil_append,
      ih fun g hg => h g (List.mem_cons_of_mem _ hg)]

theorem frameOf_joinFields {verb : Text} {fields : List Text} (hv : separator ∉ verb)
    (hf : ∀ f ∈ fields, separator ∉ f) : frameOf (joinFields verb fields) = ⟨verb, fields⟩ := by
  rw [frameOf, joinFields, splitParts_append hv, List.nil_append, splitParts_fields hf]

/-- Whether a character may stand between the open marker and the check marker (R127). -/
def isBodyChar (c : Chr) : Bool := 32 ≤ c.toNat && c.toNat ≤ 122

theorem isFieldChar_iff {c : Chr} : isFieldChar c = true ↔ isBodyChar c = true ∧ c ≠ separator := by
  simp [isFieldChar, isBodyChar, and_assoc]

theorem isBodyChar_separator : isBodyChar separator = true := by decide

/-- The conditions of `receivable`, one by one (R125, R173). -/
theorem receivable_iff {limit : Nat} {verb : Text} {fields : List Text} :
    receivable limit verb fields = true ↔ (∀ c ∈ verb, isFieldChar c = true) ∧
      (∀ f ∈ fields, ∀ c ∈ f, isFieldChar c = true) ∧ (joinFields verb fields).length + 5 ≤ limit := by
  simp [receivable, layFrame, afterOpen, checkDigits, and_assoc, Nat.succ_le_iff]

theorem joinFields_body {verb : Text} {fields : List Text} (hv : ∀ c ∈ verb, isFieldChar c = true)
    (hf : ∀ f ∈ fields, ∀ c ∈ f, isFieldChar c = true) :
    ∀ c ∈ joinFields verb fields, isBodyChar c = true := by
  intro c hc
  rw [joinFields, List.mem_append, List.mem_flatten] at hc
  obtain hc | ⟨part, hpart, hc⟩ := hc
  · exact (isFieldChar_iff.1 (hv c hc)).1
  · obtain ⟨f, hfield, rfl⟩ := List.mem_map.1 hpart
    obtain rfl | hc := List.mem_cons.1 hc
    · exact isBodyChar_separator
    · exact (isFieldChar_iff.1 (hf f hfield c hc)).1

theorem not_separator_of_fieldChars {a : Text} (h : ∀ c ∈ a, isFieldChar c = true) : separator ∉ a :=
  fun hs => (isFieldChar_iff.1 (h _ hs)).2 rfl

/-! ### What the receiver makes of a frame laid out (R127, R128) -/

theorem isBodyChar_ne {c : Chr} (h : isBodyChar c = true) : c ≠ closeMarker ∧ c ≠ checkMarker := by
  constructor <;> (rintro rfl; exact absurd h (by decide))

section

variable {body : Text} (hb : ∀ c ∈ body, isBodyChar c = true)

include hb

theorem body_ne_checkMarker : ∀ c ∈ body, decide (c ≠ checkMarker) = true := fun c hc => by
  simpa using (isBodyChar_ne (hb c hc)).2

/-- Before the check marker there are no check digits. -/
theorem bodyDigits_body : bodyDigits body = none := by
  rw [bodyDigits, List.dropWhile_eq_nil_iff.2 (body_ne_checkMarker hb)]

/-- After the check marker stand the check digits. -/
theorem bodyDigits_marked (ds : Text) : bodyDigits (body ++ checkMarker :: ds) = some ds := by
  rw [bodyDigits, List.dropWhile_append_of_pos (body_ne_checkMarker hb), List.dropWhile_cons_of_neg (by simp)]

theorem bodyContent_marked (ds : Text) : bodyContent (body ++ checkMarker :: ds) = body := by
  rw [bodyContent, List.takeWhile_append_of_pos (body_ne_checkMarker hb),
    List.takeWhile_cons_of_neg (by simp), List.append_nil]

theorem continues_body {c : Chr} (hc : isBodyChar c = true ∨ c = checkMarker) : continues body c = true := by
  rw [continues, bodyDigits_body hb]
  obtain hc | rfl := hc
  · simp only [isBodyChar, Bool.and_eq_true, decide_eq_true_eq] at hc
    simp [hc]
  · simp

theorem continues_digit {c : Chr} {ds : Text} (hds : ds.length < 2) (hc : (hexValue c).isSome = true) :
    continues (body ++ checkMarker :: ds) c = true := by
  rw [continues, bodyDigits_marked hb]
  simp [hds, hc]

theorem awaitsClose_digits (c : Chr) : awaitsClose (body ++ checkMarker :: checkDigits c) = true := by
  rw [awaitsClose, bodyDigits_marked hb]
  rfl

theorem checkAgrees_digits : checkAgrees (body ++ checkMarker :: checkDigits (checkSum body)) = true := by
  rw [checkAgrees, bodyDigits_marked hb, bodyContent_marked hb]
  simp

end

theorem hexValue_hexChar {d : Nat} (h : d < 16) : (hexValue (hexChar d)).isSome = true := by
  interval_cases d <;> decide

theorem checkDigits_hex (c : Chr) : ∀ d ∈ checkDigits c, (hexValue d).isSome = true := by
  intro d hd
  simp only [checkDigits, List.mem_cons, List.not_mem_nil, or_false] at hd
  have := c.isLt
  obtain rfl | rfl := hd <;> exact hexValue_hexChar (by omega)

theorem hexValue_closeMarker : hexValue closeMarker = none := by decide

/-- A clean character that continues a frame below the limit joins its body (R127). -/
theorem receive_continues {m : Nat} {body : Text} {c : Chr} (hc : continues body c = true)
    (hne : c ≠ closeMarker) (hm : body.length + 2 < m) :
    Receiver.receive m c .clean (.collect body false) = (.collect (body ++ [c]) false, none) := by
  rw [Receiver.receive, collectClean, decide_eq_false hne, Bool.false_and, if_neg Bool.false_ne_true,
    if_pos hc, if_neg (by omega)]

/-- What a receiver hears in two stretches. -/
theorem hear_append (m : Nat) (r : Receiver) (a b : Text) : Receiver.hear m r (a ++ b) =
    ((Receiver.hear m (Receiver.hear m r a).1 b).1,
      (Receiver.hear m r a).2 ++ (Receiver.hear m (Receiver.hear m r a).1 b).2) := by
  induction a generalizing r with
  | nil => rfl
  | cons c a ih => simp only [List.cons_append, Receiver.hear, ih, List.append_assoc]

/-- Characters that each continue the frame are collected. -/
theorem hear_continues {m : Nat} (a : Text) : ∀ body : Text, (∀ b c d, a = b ++ c :: d →
    continues (body ++ b) c = true ∧ c ≠ closeMarker) → body.length + a.length + 1 < m →
    Receiver.hear m (.collect body false) a = (.collect (body ++ a) false, []) := by
  induction a with
  | nil => intro body _ _; simp [Receiver.hear]
  | cons c a ih =>
    intro body h hm
    obtain ⟨hc, hne⟩ := h [] c a rfl
    rw [List.append_nil] at hc
    simp only [List.length_cons] at hm
    rw [Receiver.hear, receive_continues hc hne (by omega), ih (body ++ [c]) ?_ (by simp; omega)]
    · simp
    · intro b d e hd
      have := h (c :: b) d e (by rw [hd]; rfl)
      simpa using this

section

variable {m : Nat} {body : Text} (hb : ∀ c ∈ body, isBodyChar c = true) (hm : body.length + 5 ≤ m)

include hb hm

/-- A frame laid out, up to its close marker, is collected whole (R127, R173). -/
theorem hear_opened :
    Receiver.hear m .ready (openMarker :: (body ++ checkMarker :: checkDigits (checkSum body))) =
    (.collect (body ++ checkMarker :: checkDigits (checkSum body)) false, []) := by
  have hopen : Receiver.receive m openMarker .clean .ready = (.collect [] false, none) := by
    simp [Receiver.receive]
  have hbody : Receiver.hear m (.collect [] false) (body ++ [checkMarker]) =
      (.collect (body ++ [checkMarker]) false, []) := by
    refine hear_continues _ [] ?_ (by simp; omega)
    intro b c d e
    have hmem : ∀ x ∈ b ++ c :: d, isBodyChar x = true ∨ x = checkMarker := fun x hx => by
      rw [← e, List.mem_append, List.mem_singleton] at hx
      exact hx.imp_left (hb x)
    have hc := hmem c (by simp)
    refine ⟨continues_body (fun x hx => ?_) hc, ?_⟩
    · -- what precedes a character of `body ++ [checkMarker]` lies in the body
      have hprefix : b <+: body := by
        have hlen : b.length ≤ body.length := by
          have := congrArg List.length e
          simp at this
          omega
        refine List.prefix_of_prefix_length_le (l₃ := body ++ [checkMarker]) ⟨c :: d, e.symm⟩
          (List.prefix_append _ _) hlen
      exact hb x (hprefix.subset (by simpa using hx))
    · obtain hc | rfl := hc
      · exact (isBodyChar_ne hc).1
      · decide
  have hdigits : Receiver.hear m (.collect (body ++ [checkMarker]) false) (checkDigits (checkSum body)) =
      (.collect (body ++ [checkMarker] ++ checkDigits (checkSum body)) false, []) := by
    refine hear_continues _ _ ?_ (by simp [checkDigits]; omega)
    intro b c d e
    have hc := checkDigits_hex (checkSum body) c (by simp [e])
    have hlen : 2 = b.length + (d.length + 1) := by simpa [checkDigits] using congrArg List.length e
    refine ⟨?_, fun hclose => by rw [hclose, hexValue_closeMarker] at hc; cases hc⟩
    rw [List.append_assoc]
    exact continues_digit hb (show b.length < 2 by omega) hc
  have e : openMarker :: (body ++ checkMarker :: checkDigits (checkSum body)) =
      openMarker :: ((body ++ [checkMarker]) ++ checkDigits (checkSum body)) := by simp
  rw [e, Receiver.hear, hopen, hear_append, hbody]
  dsimp only
  rw [hdigits]
  simp

omit hm in
/-- The close marker in its place ends a frame COMPLETE, with what was laid out (R128). -/
theorem receive_closeMarker : Receiver.receive m closeMarker .clean
    (.collect (body ++ checkMarker :: checkDigits (checkSum body)) false) =
      (.ready, some (.complete (frameOf body))) := by
  rw [Receiver.receive, collectClean, awaitsClose_digits hb, decide_eq_true rfl, Bool.and_self, if_pos rfl,
    closeFrame, if_pos (checkAgrees_digits hb), bodyContent_marked hb]
  rfl

end

theorem layFrame_eq (body : Text) : layFrame body =
    (openMarker :: (body ++ checkMarker :: checkDigits (checkSum body))) ++ [closeMarker] := by
  simp [layFrame, afterOpen]

/-- Settles O15: the characters of the layout are collected one by one, and its close marker ends the frame
with the verb and the fields that its separators part. -/
theorem laidFrameIsHeardBack : Obligations.LaidFrameIsHeardBack := by
  intro m verb fields h
  obtain ⟨hv, hf, hm⟩ := receivable_iff.1 h
  have hb := joinFields_body hv hf
  rw [layFrame_eq, hear_append, hear_opened hb hm, Receiver.hear, receive_closeMarker hb,
    frameOf_joinFields (not_separator_of_fieldChars hv) fun f hfield =>
      not_separator_of_fieldChars (hf f hfield)]
  rfl

end Sys2Proof.Machine

/-! SUPPORT. Characters received on a line (R126 to R132; O16, O25). -/

namespace Sys2Proof.Machine

open State

/-! ### Flow characters (R131, R175) -/

theorem flowOf_eq_none {c : Chr} : flowOf c = none ↔ c ≠ 0x0E ∧ c ≠ 0x0F := by
  unfold flowOf
  split_ifs <;> simp_all

theorem flowOf_body {c : Chr} (h : isBodyChar c = true) : flowOf c = none := by
  rw [flowOf_eq_none]
  constructor <;> (rintro rfl; exact absurd h (by decide))

/-- A character that continues a frame is a body character, the check marker or a check digit, and so
neither the close marker nor a flow character (R127). -/
theorem continues_ne {body : Text} {c : Chr} (h : continues body c = true) :
    c ≠ closeMarker ∧ flowOf c = none := by
  rw [flowOf_eq_none]
  unfold continues at h
  split at h
  · refine ⟨?_, ?_, ?_⟩ <;> (rintro rfl; exact absurd h (by decide))
  · have hc := (Bool.and_eq_true_iff.1 h).2
    refine ⟨?_, ?_, ?_⟩ <;> (rintro rfl; exact absurd hc (by decide))

section

variable {s : State} {p : Port} {c : Chr} {e : CharError}

/-! ### A step of the host receiver (R132) -/

section

variable {step : Receiver → Receiver × Option Termination}

theorem hostReceives_none (h : (step s.host.rx).2 = none) :
    s.hostReceives step = s.setHost { s.host with rx := (step s.host.rx).1 } := by
  unfold hostReceives
  dsimp only
  rw [h]

theorem hostReceives_complete {f : Frame} (h : (step s.host.rx).2 = some (.complete f)) :
    s.hostReceives step = (s.setHost { s.host with rx := (step s.host.rx).1 }).requestArrives f := by
  unfold hostReceives
  dsimp only
  rw [h]

theorem hostReceives_faulty {r : FaultReason} (h : (step s.host.rx).2 = some (.fault r)) :
    s.hostReceives step = (s.setHost { s.host with rx := (step s.host.rx).1 }).hostFault r := by
  unfold hostReceives
  dsimp only
  rw [h]

/-- A step that leaves the receiver as it is changes nothing. -/
theorem hostReceives_idle (h : step s.host.rx = (s.host.rx, none)) : s.hostReceives step = s := by
  rw [hostReceives_none (by rw [h]), h]
  rfl

end

/-- A character that is no clean flow character is a step of the host receiver, which knows no parity error
(R126, R129). -/
theorem exec_hostCharacter (hrun : s.power = .running)
    (h : Line.error .host e ≠ .clean ∨ flowOf c = none) : exec (.characterReceived .host c e) s =
      .next (s.hostReceives (Receiver.receive Config.hostLine.maxFrame c (Line.error .host e))) := by
  have hflow : (if Line.error .host e = .clean then flowOf c else none) = none := by
    split_ifs with he
    · exact h.resolve_left (not_not_intro he)
    · rfl
  change execCharacterReceived .host c e s = _
  rw [execCharacterReceived, during_running hrun, hflow]

/-- A clean flow character leaves the host receiver as it is, but for a frame held open at space (R131). -/
theorem flow_idle {r : Receiver} (h : ∀ body, r ≠ .collect body true) : Receiver.flow r = (r, none) := by
  cases r with
  | idleWait | ready => rfl
  | collect body atSpace =>
    cases atSpace with
    | false => rfl
    | true => exact absurd rfl (h body)

/-- A character that ends no frame moves the host receiver alone. -/
theorem exec_hostCharacter_quiet (hrun : s.power = .running)
    (h : Line.error .host e ≠ .clean ∨ flowOf c = none) {r : Receiver}
    (hr : Receiver.receive Config.hostLine.maxFrame c (Line.error .host e) s.host.rx = (r, none)) :
    exec (.characterReceived .host c e) s = .next (s.setHost { s.host with rx := r }) := by
  rw [exec_hostCharacter hrun h, hostReceives_none (by rw [hr]), hr]

/-! ### The characters of a request (R148, R173) -/

/-- Characters that end no frame move the host receiver alone. -/
theorem hearOnLine_quiet (a rest : Text) : ∀ s : State, s.power = .running → (∀ c ∈ a, flowOf c = none) →
    (Receiver.hear Config.hostLine.maxFrame s.host.rx a).2 = [] →
    hearOnLine .host (a ++ rest) s = hearOnLine .host rest
      (s.setHost { s.host with rx := (Receiver.hear Config.hostLine.maxFrame s.host.rx a).1 }) := by
  induction a with
  | nil => intro s _ _ _; rfl
  | cons c a ih =>
    intro s hrun hflow hquiet
    obtain ⟨hc, ha⟩ := List.append_eq_nil_iff.1 hquiet
    have hc : (Receiver.receive Config.hostLine.maxFrame c .clean s.host.rx).2 = none := by
      simpa using hc
    have hchar := exec_hostCharacter_quiet (e := .clean) hrun (.inr (hflow c List.mem_cons_self))
      (Prod.ext rfl hc)
    rw [List.cons_append, hearOnLine, hchar]
    exact ih (s.setHost _) hrun (fun d hd => hflow d (List.mem_cons_of_mem _ hd)) ha

/-- Settles O16: the characters before the close marker are collected, and the close marker hands the request
on as its row does. -/
theorem charactersMakeRequest : Obligations.CharactersMakeRequest := by
  intro i v fields s hi hreceivable h hrx
  obtain ⟨hv, hf, hm⟩ := receivable_iff.1 hreceivable
  have hb := joinFields_body hv hf
  have hopened := hear_opened hb hm
  have hflow : ∀ c ∈ openMarker :: (joinFields v.text fields ++
      checkMarker :: checkDigits (checkSum (joinFields v.text fields))), flowOf c = none := by
    intro c hc
    simp only [List.mem_cons, List.mem_append] at hc
    obtain rfl | hc | rfl | hc := hc
    · decide
    · exact flowOf_body (hb c hc)
    · decide
    · rw [flowOf_eq_none]
      have hhex := checkDigits_hex _ c hc
      constructor <;> (rintro rfl; exact absurd hhex (by decide))
  have hlast := receive_closeMarker (m := Config.hostLine.maxFrame) hb
  rw [frameOf_joinFields (not_separator_of_fieldChars hv)
    fun f hfield => not_separator_of_fieldChars (hf f hfield)] at hlast
  have hclose : ∀ t : State, t.power = .running → t.host.rx = .collect (joinFields v.text fields ++
      checkMarker :: checkDigits (checkSum (joinFields v.text fields))) false →
      exec (.characterReceived .host closeMarker .clean) t =
        .next ((t.setHost { t.host with rx := .ready }).requestArrives ⟨v.text, fields⟩) := by
    intro t ht htrx
    rw [← htrx] at hlast
    rw [exec_hostCharacter (e := .clean) ht (.inr (by decide))]
    refine congrArg Host.Outcome.next ((hostReceives_complete (congrArg Prod.snd hlast)).trans ?_)
    rw [hlast]
  rw [layFrame_eq, hearOnLine_quiet _ _ s h.running hflow (by rw [hrx, hopened]), hrx, hopened, hearOnLine,
    hclose _ (by exact h.running) (by rfl), exec_of_hostRequest hi, request, during_running h.running]
  have hback : s.setHost { s.host with rx := .ready } = s := by rw [← hrx]; rfl
  exact congrArg (fun t => Host.Outcome.next (requestArrives ⟨v.text, fields⟩ t)) hback

/-! ### A step of an attached Port's receiver (R126, R132) -/

theorem exec_meterCharacter (hrun : s.power = .running) (h : e ≠ .clean ∨ flowOf c = none) :
    exec (.characterReceived (.meter p) c e) s = .next (s.meterHears p c e) := by
  have herror : Line.error (.meter p) e = e := by cases e <;> rfl
  have hflow : (if Line.error (.meter p) e = .clean then flowOf c else none) = none := by
    rw [herror]
    split_ifs with he
    · exact h.resolve_left (not_not_intro he)
    · rfl
  change execCharacterReceived (.meter p) c e s = _
  rw [execCharacterReceived, during_running hrun, hflow]

/-- A Meter Line Unit after a character: its receiver's new state, and a flow character that waited for the
character on the line has gone (log entry 13). -/
def State.heardBy (s : State) (p : Port) (r : Receiver) : State :=
  s.setMlu p { s.mlu p with rx := r, flowWaiting := (s.mlu p).flowWaiting && (s.mlu p).drivingBreak }

section

variable (ha : (s.record p).state.attached = true)

include ha

theorem not_loopback_of_attached : (s.record p).state ≠ .loopback := fun h => by
  simp [h, PortState.attached] at ha

/-- A character on an attached Port's line: what its receiver makes of it, and what comes of a frame that
ends. -/
theorem meterHears_eq : s.meterHears p c e =
    match (Receiver.receive Config.meterLine.maxFrame c e (s.mlu p).rx).2 with
    | some t => (s.heardBy p (Receiver.receive Config.meterLine.maxFrame c e (s.mlu p).rx).1).frameEnds p t
    | none => s.heardBy p (Receiver.receive Config.meterLine.maxFrame c e (s.mlu p).rx).1 := by
  have hhears : (s.setMlu p (s.mlu p).charPassed).hears p = true := by
    rw [hears, setMlu_record, ha, Bool.true_or]
  rw [meterHears_attached ha, meterReceives, if_pos hhears]
  simp only [setMlu_mlu, if_true, setMlu_setMlu, Mlu.charPassed_rx]
  rfl

theorem meterHears_none (h : (Receiver.receive Config.meterLine.maxFrame c e (s.mlu p).rx).2 = none) :
    s.meterHears p c e = s.heardBy p (Receiver.receive Config.meterLine.maxFrame c e (s.mlu p).rx).1 := by
  rw [meterHears_eq ha, h]

theorem meterHears_fault {r : FaultReason}
    (h : (Receiver.receive Config.meterLine.maxFrame c e (s.mlu p).rx).2 = some (.fault r)) :
    s.meterHears p c e =
      (s.heardBy p (Receiver.receive Config.meterLine.maxFrame c e (s.mlu p).rx).1).setRecord p
        { s.record p with
          latched := { (s.record p).latched with lineError := true }, lastError := some r } := by
  rw [meterHears_eq ha, h]
  dsimp only
  rw [frameEnds, if_neg (show ¬ ((s.heardBy p _).record p).state = .loopback from
    not_loopback_of_attached ha)]
  simp [latchLineError, latch, Latches.add, heardBy]

end

/-- A complete frame on a Port whose Meter Line Unit is free is taken at once (R137, R141). -/
theorem meterHears_complete (h : s.MeterFree p) {f : Frame}
    (hf : (Receiver.receive Config.meterLine.maxFrame c e (s.mlu p).rx).2 = some (.complete f)) :
    let t := s.heardBy p (Receiver.receive Config.meterLine.maxFrame c e (s.mlu p).rx).1
    s.meterHears p c e = (route p f t).1.compose p (route p f t).2 := by
  intro t
  have hfree : t.MeterFree p :=
    ⟨h.running, h.attached, by simp [t, heardBy, h.inputs], by simp [t, heardBy, h.owed],
      by simp [t, heardBy, h.slot]⟩
  rw [meterHears_eq h.attached, hf]
  dsimp only
  rw [frameEnds, if_neg (not_loopback_of_attached hfree.attached)]
  exact frameArrives_free hfree f

/-! ### What the receiver makes of a character (R126 to R129) -/

theorem receive_ready_of_not_open {m : Nat} (h : c ≠ openMarker ∨ e ≠ .clean) :
    Receiver.receive m c e .ready = (.idleWait, none) := by
  rw [Receiver.receive, if_neg]
  exact fun hc => h.elim (fun hne => hne hc.2) fun hne => hne hc.1

theorem receive_overlength {m : Nat} {body : Text} (hc : continues body c = true) (hm : m ≤ body.length + 2) :
    Receiver.receive m c .clean (.collect body false) = (.idleWait, some (.fault .overlength)) := by
  rw [Receiver.receive, collectClean, decide_eq_false (continues_ne hc).1, Bool.false_and,
    if_neg Bool.false_ne_true, if_pos hc, if_pos hm]
  rfl

theorem receive_badchar {m : Nat} {body : Text} (hc : continues body c = false)
    (hclose : c ≠ closeMarker ∨ awaitsClose body = false) :
    Receiver.receive m c .clean (.collect body false) = (.idleWait, some (.fault .badchar)) := by
  have hend : (decide (c = closeMarker) && awaitsClose body) = false := by
    rw [Bool.and_eq_false_iff, decide_eq_false_iff_not]
    exact hclose
  rw [Receiver.receive, collectClean, hend, if_neg Bool.false_ne_true, hc, if_neg Bool.false_ne_true]
  rfl

theorem receive_close {m : Nat} {body : Text} (h : awaitsClose body = true) :
    Receiver.receive m closeMarker .clean (.collect body false) = terminate (closeFrame body) := by
  rw [Receiver.receive, collectClean, h, decide_eq_true rfl, Bool.and_self, if_pos rfl]

/-- The clauses of O25 about the receiver alone. -/
theorem receiver_clauses (m : Nat) (body : Text) (c : Chr) (e : CharError) :
    Receiver.receive m c e .idleWait = (.idleWait, none) ∧
      Receiver.receive m 0x7B .clean .ready = (.collect [] false, none) ∧
      (c ≠ 0x7B ∨ e ≠ .clean → Receiver.receive m c e .ready = (.idleWait, none)) ∧
      (continues body c = true → body.length + 2 < m →
        Receiver.receive m c .clean (.collect body false) = (.collect (body ++ [c]) false, none)) ∧
      (continues body c = true → m ≤ body.length + 2 →
        Receiver.receive m c .clean (.collect body false) = (.idleWait, some (.fault .overlength))) ∧
      (continues body c = false → c ≠ 0x7D ∨ awaitsClose body = false →
        Receiver.receive m c .clean (.collect body false) = (.idleWait, some (.fault .badchar))) ∧
      (awaitsClose body = true → checkAgrees body = false →
        Receiver.receive m 0x7D .clean (.collect body false) = (.idleWait, some (.fault .check))) ∧
      (awaitsClose body = true → checkAgrees body = true →
        Receiver.receive m 0x7D .clean (.collect body false) =
          (.ready, some (.complete (frameOf (bodyContent body))))) ∧
      Receiver.receive m c .parity (.collect body false) = (.idleWait, some (.fault .parity)) ∧
      (c ≠ 0 → Receiver.receive m c .stopBit (.collect body false) =
        (.idleWait, some (.fault .framing))) ∧
      Receiver.receive m 0 .stopBit (.collect body false) = (.collect body true, none) ∧
      Receiver.receive m c e (.collect body true) = (.idleWait, some (.fault .framing)) ∧
      Receiver.flow (.collect body true) = (.idleWait, some (.fault .framing)) := by
  refine ⟨rfl, rfl, receive_ready_of_not_open, fun hc => receive_continues hc (continues_ne hc).1,
    receive_overlength, receive_badchar, fun h ha => ?_, fun h ha => ?_, rfl, fun hc => ?_, rfl, rfl, rfl⟩
  · exact (receive_close h).trans (by rw [closeFrame, ha]; rfl)
  · exact (receive_close h).trans (by rw [closeFrame, ha]; rfl)
  · rw [Receiver.receive]
    exact if_neg hc

end

/-- Settles O25: a character is a step of its line's receiver, whose cases are `receiver_clauses`; and what
each step does to the line. -/
theorem charactersReceived : Obligations.CharactersReceived := by
  refine ⟨fun s c e hrun hrx => ?_, fun s hrun hrx => ?_, fun s c e hrun hrx hopen hhold hgo => ?_,
    fun s body c hrun hrx hc hm => ?_, fun s p body c hrun ha hrx hc hm => ?_,
    fun s p body c hrun ha hrx => ?_, fun s f hrun hrx => ?_, receiver_clauses, fun s c e hrun hce => ?_,
    fun s p c e hrun ha hce => ?_, fun s p hrun => ⟨rfl, rfl, fun hl hquiet c e => ?_⟩⟩
  · by_cases hflow : Line.error .host e = .clean ∧ flowOf c ≠ none
    · obtain ⟨f, hf⟩ := Option.ne_none_iff_exists'.1 hflow.2
      change execCharacterReceived .host c e s = _
      rw [execCharacterReceived, during_running hrun, if_pos hflow.1, hf]
      exact congrArg Host.Outcome.next (hostReceives_idle (by rw [hrx]; rfl))
    · rw [exec_hostCharacter_quiet hrun ((not_and_or.1 hflow).imp_right not_not.1) (by rw [hrx]; rfl), ← hrx]
      rfl
  · exact exec_hostCharacter_quiet hrun (.inr (by decide)) (by rw [hrx]; rfl)
  · exact exec_hostCharacter_quiet hrun (.inr (flowOf_eq_none.2 ⟨hhold, hgo⟩))
      (by rw [hrx, receive_ready_of_not_open (.inl hopen)])
  · exact exec_hostCharacter_quiet hrun (.inr (continues_ne hc).2)
      (by rw [hrx]; exact receive_continues hc (continues_ne hc).1 hm)
  · have hreceive := receive_continues hc (continues_ne hc).1 hm
    rw [exec_meterCharacter hrun (.inr (continues_ne hc).2),
      meterHears_none ha (by rw [hrx]; exact congrArg Prod.snd hreceive), hrx]
    exact congrArg (fun x : Receiver × Option Termination => Host.Outcome.next (s.heardBy p x.1)) hreceive
  · rw [exec_meterCharacter hrun (.inl (by decide)), meterHears_fault ha (by rw [hrx]; rfl), hrx]
    rfl
  · change s.during (hostReceives Receiver.flow) = _
    rw [during_running hrun, hostReceives_idle (flow_idle hrx)]
  · have herror : Line.error .host e = if e = .parity then .clean else e := by cases e <;> rfl
    have hstep := exec_hostCharacter (s := s) (c := c) (e := e) hrun
      (hce.imp (fun h => by rw [h]; decide) flowOf_eq_none.2)
    rw [herror] at hstep
    refine ⟨fun h => ?_, fun f h hfree => ?_, fun reason h => ?_⟩
    · exact hstep.trans (congrArg Host.Outcome.next (hostReceives_none h))
    · exact hstep.trans (congrArg Host.Outcome.next
        ((hostReceives_complete h).trans (requestArrives_free (hfree.setRx _) f)))
    · exact hstep.trans (congrArg Host.Outcome.next ((hostReceives_faulty h).trans (hostFault_eq _ reason)))
  · have hstep := exec_meterCharacter (p := p) hrun (hce.imp_right flowOf_eq_none.2)
    refine ⟨fun h => ?_, fun f h hfree => ?_, fun reason h => ?_⟩
    · exact hstep.trans (congrArg Host.Outcome.next (meterHears_none ha h))
    · exact hstep.trans (congrArg Host.Outcome.next (meterHears_complete hfree h))
    · exact hstep.trans (congrArg Host.Outcome.next (meterHears_fault ha h))
  · have hdeaf : (s.mlu p).comesRound c e = false := by
      obtain ⟨hslots, hecho⟩ | ⟨hrx, htest⟩ := hquiet
      · refine comesRound_none ?_ c e
        rw [Mlu.onLoop, hecho, Option.or_none]
        cases hs : (s.mlu p).slots <;> simp_all [Slots.first, Slots.frames]
      · exact comesRound_ready hrx htest c e
    by_cases hflow : e = .clean ∧ flowOf c ≠ none
    · obtain ⟨f, hf⟩ := Option.ne_none_iff_exists'.1 hflow.2
      change execCharacterReceived (.meter p) c e s = _
      rw [execCharacterReceived, during_running hrun, hflow.1, if_pos (by rfl), hf]
      exact congrArg Host.Outcome.next (meterFlow_looped hl f)
    · rw [exec_meterCharacter hrun ((not_and_or.1 hflow).imp_right not_not.1),
        meterHears_deaf (by rw [hl]; rfl) hdeaf]

end Sys2Proof.Machine

/-! SUPPORT. The requests that load figures: SPOILREF (R7), LIMITS (R29), and BAND, SURCH and TIER on the
table NEXT (R35 to R38). -/

namespace Sys2Proof.Machine

/-! ### SPOILREF -/

/-- Settles O28: the checks of R4 and R7 one after another, and then the state that `State.spoilRefunded` and
the pass leave. -/
theorem spoilrefRefundsAndRunsPass : Obligations.SpoilrefRefundsAndRunsPass := by
  intro s fo fp fn fa order port pieces amount hs ho hp hn ha
  rw [exec_request_outcome (v := .spoilref) rfl hs rfl, perform, spoilrefRequest, outcome_number s _ ho,
    outcome_number s _ hp, outcome_number s _ hn, outcome_number s _ ha, outcome_checkOrderNumber]
  cases hport : portOf port with
  | none => rw [outcome_port_of_none s _ hport]
  | some p =>
    rw [outcome_port_of_some s _ hport, outcome_refuseIf, outcome_refuseIf, outcome_refuseIf,
      outcome_refuseIf, outcome_refuseIf, outcome_refuseIf]
    rfl

/-! ### LIMITS -/

/-- The reply names the first of the listed fields if that was adjusted (R154). -/
theorem settled_firstAdjusted_cons (v : HostVerb) (i : Nat) (a : Bool) (rest : List (Nat × Bool))
    (figures : List Figure) :
    settled v (firstAdjusted ((i, a) :: rest)) figures =
      if a then .adj v i figures else settled v (firstAdjusted rest) figures := by
  cases a <;> rfl

/-- With no field adjusted the reply is OK (R154). -/
theorem settled_firstAdjusted_nil (v : HostVerb) (figures : List Figure) :
    settled v (firstAdjusted []) figures = .ok v figures := rfl

/-- A field was adjusted when it was given and the value kept is another. -/
theorem any_ne_iff (given : Option Nat) (kept : Nat) :
    given.any (· ≠ kept) = true ↔ given ≠ none ∧ given ≠ some kept := by
  cases given <;> simp

/-- An optional limit is clamped when it is given, and is otherwise the limit that stands (R29). -/
theorem getD_map_clamp (given : Option Nat) (low high standing : Nat) :
    (given.map (clamp low high)).getD standing =
      match given with
      | none => standing
      | some n => max low (min n high) := by
  cases given with
  | none => rfl
  | some n => rw [Option.map_some, Option.getD_some, clamp, Nat.min_comm]

/-- Settles O31: the fields of R29 one after another, and then the three limits that `limitsRequest`
stores. -/
theorem limitsStored : Obligations.LimitsStored := by
  intro s fp fr fs fw port run? silence? wait? hs hp hr hsil hw
  rw [exec_request_outcome (v := .limits) rfl hs rfl, perform, limitsRequest, outcome_number s _ hp,
    outcome_optionalNumber s _ hr, outcome_optionalNumber s _ hsil, outcome_optionalNumber s _ hw]
  cases hport : portOf port with
  | none => rw [outcome_port_of_none s _ hport]
  | some p =>
    rw [outcome_port_of_some s _ hport]
    simp only [pure_eq_ok, outcome_ok, settled_firstAdjusted_cons, settled_firstAdjusted_nil,
      any_ne_iff, getD_map_clamp]
    rfl

/-! ### BAND -/

/-- A number that is read is also the optional number read (R153). -/
theorem readOptional_of_readNumber {most n : Nat} {t : Text} (h : readNumber most t = some n) :
    readOptional most t = some (some n) := by
  have hne : t ≠ [] := by
    rintro rfl
    cases h
  rw [readOptional, if_neg hne, h]
  rfl

/-- A weight clamped into 1 to 20000 (R33). -/
theorem clamp_weight (n : Nat) : clamp 1 weightMax n = max 1 (min n 20000) := by
  rw [clamp, weightMax, Nat.min_comm]

section

variable (s : State) (v : HostVerb)

/-- A field that names one of a range of things passes with it (R155). -/
theorem outcome_named {size : Nat} (i : Fin size) (pos : Nat) (k : Fin size → Answered) :
    s.outcome v (named size (i.val + 1) pos >>= k) = s.outcome v (k i) := by
  rw [(named_eq_ok size _ pos i).2 rfl, ok_bind]

/-- A field outside the range of the things it names refuses the request RANGE (R155). -/
theorem outcome_named_of_not {size n : Nat} (h : ¬(1 ≤ n ∧ n ≤ size)) (pos : Nat)
    (k : Fin size → Answered) : s.outcome v (named size n pos >>= k) = s.refusal v .range pos := by
  rw [named_of_not h, error_bind]
  rfl

/-- A field that a request needs, and that is missing, refuses it FORMAT (R153). -/
theorem outcome_orRefuse_none {α : Type} (w : RefusalWord) (pos : Nat) (k : α → Answered) :
    s.outcome v (orRefuse none w pos >>= k) = s.refusal v w pos := rfl

theorem outcome_orRefuse_some {α : Type} (a : α) (w : RefusalWord) (pos : Nat) (k : α → Answered) :
    s.outcome v (orRefuse (some a) w pos >>= k) = s.outcome v (k a) := rfl

end

/-- Settles O33: the fields of R35 one after another and the band that `bandRequest` stores; the slot it
empties (R36); and the classes and slots that no band bears. -/
theorem bandStoredOrRemoved : Obligations.BandStoredOrRemoved := by
  refine ⟨?stored, ?removed, ?refused⟩
  case stored =>
    intro s fc fk fl fu fr c k lower0 upper? rate? hs hc hk hl hu hr
    rw [exec_request_outcome (v := .band) rfl hs rfl, perform, bandRequest, outcome_number s _ hc,
      outcome_number s _ hk, outcome_optionalNumber s _ (readOptional_of_readNumber hl),
      outcome_optionalNumber s _ hu, outcome_optionalNumber s _ hr, outcome_named, outcome_named]
    cases upper? with
    | none => rfl
    | some upper0 =>
      cases rate? with
      | none => rfl
      | some rate =>
        simp only [outcome_orRefuse_some, outcome_refuseIf, pure_eq_ok, outcome_ok, clamp_weight,
          settled_firstAdjusted_pair]
        rfl
  case removed =>
    intro s fc fk fu fr c k upper? rate? hs hc hk hu hr
    rw [exec_request_outcome (v := .band) rfl hs rfl, perform, bandRequest, outcome_number s _ hc,
      outcome_number s _ hk, outcome_optionalNumber s _ (o := none) rfl, outcome_optionalNumber s _ hu,
      outcome_optionalNumber s _ hr, outcome_named, outcome_named]
    rfl
  case refused =>
    intro s fc fk fl fu fr class_ slot lower? upper? rate? hs hc hk hl hu hr
    rw [exec_request_outcome (v := .band) rfl hs rfl, perform, bandRequest, outcome_number s _ hc,
      outcome_number s _ hk, outcome_optionalNumber s _ hl, outcome_optionalNumber s _ hu,
      outcome_optionalNumber s _ hr]
    refine ⟨fun hout => ?_, fun hin hout => ?_⟩
    · rw [outcome_named_of_not s _ (by omega)]
    · obtain ⟨c, rfl⟩ : ∃ c : Fin 8, class_ = c.val + 1 := ⟨⟨class_ - 1, by omega⟩, by simp; omega⟩
      rw [outcome_named, outcome_named_of_not s _ (by omega)]

/-! ### SURCH and TIER -/

/-- The letter field of a SURCH reads the character of a letter alone. -/
theorem readLetter_eq_some_iff (t : Text) (l : Letter) : readLetter t = some l ↔ t = [Letter.char l] := by
  constructor
  · intro h
    unfold readLetter at h
    split at h
    · have hc := List.find?_some h
      rw [of_decide_eq_true hc]
    · cases h
  · rintro rfl
    cases l <;> rfl

/-- A per mille is clamped from above alone (R38). -/
theorem clamp_perMille (n : Nat) : clamp 0 500 n = min n 500 := by
  rw [clamp, Nat.zero_max, Nat.min_comm]

/-- The least pieces of a tier are clamped into 2 to 9999 (R38). -/
theorem clamp_minimum (n : Nat) : clamp 2 Config.piecesMax n = max 2 (min n 9999) := by
  rw [clamp, Config.piecesMax, Nat.min_comm]

/-- Settles O34: the fields of R37 and of R38 one after another, and then the surcharge or the tier that
`surchRequest` or `tierRequest` sets or removes. -/
theorem surchargesAndTiersStored : Obligations.SurchargesAndTiersStored := by
  refine ⟨?set, ?letter, ?tier, ?slot⟩
  case set =>
    intro s l fa amount? hs ha
    have hl : readLetter [Letter.char l] = some l := (readLetter_eq_some_iff _ l).2 rfl
    rw [exec_request_outcome (v := .surch) rfl hs rfl, perform, surchRequest, outcome_refuseIf,
      if_neg (by exact List.cons_ne_nil _ _)]
    change s.outcome _ (orRefuse (readLetter [Letter.char l]) .range 1 >>= _) = _
    rw [hl, outcome_orRefuse_some, outcome_optionalNumber s _ ha, outcome_refuseIf]
    cases amount? with
    | none => simp only [Option.any_none]; rfl
    | some a =>
      simp only [Option.any_some, decide_eq_true_eq, Option.some.injEq, exists_eq_left']
      rfl
  case letter =>
    intro s fl fa hs hl
    rw [exec_request_outcome (v := .surch) rfl hs rfl, perform, surchRequest, outcome_refuseIf]
    refine if_congr Iff.rfl rfl ?_
    have hnone : readLetter fl = none :=
      Option.eq_none_iff_forall_ne_some.2 fun l h => hl l ((readLetter_eq_some_iff fl l).1 h)
    change s.outcome _ (orRefuse (readLetter fl) .range 1 >>= _) = _
    rw [hnone, outcome_orRefuse_none]
  case tier =>
    intro s fk fm fd k min? perMille? hs hk hm hd
    rw [exec_request_outcome (v := .tier) rfl hs rfl, perform, tierRequest, outcome_number s _ hk,
      outcome_optionalNumber s _ hm, outcome_optionalNumber s _ hd]
    cases min? with
    | none =>
      simp only [outcome_named]
      rfl
    | some min0 =>
      cases perMille? with
      | none => rfl
      | some perMille0 =>
        simp only [outcome_orRefuse_some, outcome_named, pure_eq_ok, outcome_ok, clamp_perMille,
          clamp_minimum, settled_firstAdjusted_pair]
        rfl
  case slot =>
    intro s fk fm fd slot min? perMille? hs hk hm hd hout
    have hslot : ¬(1 ≤ slot ∧ slot ≤ 4) := by omega
    rw [exec_request_outcome (v := .tier) rfl hs rfl, perform, tierRequest, outcome_number s _ hk,
      outcome_optionalNumber s _ hm, outcome_optionalNumber s _ hd]
    cases min? with
    | none =>
      simp only [outcome_named_of_not s _ hslot]
      rfl
    | some min0 =>
      cases perMille? with
      | none => rfl
      | some perMille0 =>
        simp only [outcome_orRefuse_some, outcome_named_of_not s _ hslot]
        rfl

end Sys2Proof.Machine

/-! SUPPORT. The requests on the Offer and on Ports (chapter 6, section 7.6) and the five reports of figures
(R15, R32, R54, R99, R100). -/

namespace Sys2Proof.Machine

/-! ### The Offer -/

/-- Settles O48: the sets of R106 one after another, and then the Offer that `offerRequest` stores. -/
theorem offerReplaced : Obligations.OfferReplaced := by
  intro s fc fl fm fb max? block? hs hm hb
  rw [exec_request_outcome (v := .offer) rfl hs rfl, perform, offerRequest]
  change s.outcome _ (orRefuse (readClasses fc) .range 1 >>= fun classes =>
    orRefuse (readLetters fl) .range 2 >>= _) = _
  cases readClasses fc with
  | none => rfl
  | some classes =>
    cases readLetters fl with
    | none => rfl
    | some letters =>
      rw [outcome_orRefuse_some, outcome_orRefuse_some, outcome_optionalNumber s _ hm,
        outcome_optionalNumber s _ hb]
      simp only [pure_eq_ok, outcome_ok, settled_firstAdjusted_cons, settled_firstAdjusted_nil,
        any_ne_iff, getD_map_clamp]
      rfl

/-! ### Suspension -/

theorem waitingRun_of_none {s : State} {p : Port} (h : s.runOf p = none) : s.waitingRun p = none := by
  rw [State.waitingRun, h]
  rfl

theorem waitingRun_of_some {s : State} {p : Port} {r : Run} (h : s.runOf p = some r) :
    s.waitingRun p = if r.state = .waiting then some r else none := by
  rw [State.waitingRun, h, Option.filter_some]
  simp only [decide_eq_true_eq]

/-- Settles O49: the checks of R114 and of R115, and then the flag set, with the closure of a WAITING Run,
or cleared. -/
theorem portSuspendedOrResumed : Obligations.PortSuspendedOrResumed := by
  intro s fp port hs hp
  constructor
  · rw [exec_request_outcome (v := .suspend) rfl hs rfl, perform, suspendRequest, outcome_number s _ hp]
    cases hport : portOf port with
    | none => rw [outcome_port_of_none s _ hport]
    | some p =>
      rw [outcome_port_of_some s _ hport, outcome_refuseIf]
      refine if_congr Iff.rfl rfl ?_
      cases hr : s.runOf p with
      | none =>
        simp only [waitingRun_of_none hr]
        rfl
      | some r =>
        by_cases hw : r.state = .waiting
        · simp only [waitingRun_of_some hr, if_pos hw]
          rfl
        · simp only [waitingRun_of_some hr, if_neg hw]
          rfl
  · rw [exec_request_outcome (v := .resume) rfl hs rfl, perform, resumeRequest, outcome_number s _ hp]
    cases hport : portOf port with
    | none => rw [outcome_port_of_none s _ hport]
    | some p =>
      rw [outcome_port_of_some s _ hport, outcome_refuseIf]
      rfl

/-! ### The port report -/

/-- The Port that a number names bears that number (R155). -/
theorem portNumber_of_portOf {n : Nat} {p : Port} (h : portOf n = some p) : portNumber p = n := by
  unfold portOf at h
  split_ifs at h with hn
  obtain rfl := Option.some.inj h
  exact Nat.sub_add_cancel hn.1

/-- Settles O50: the figures of R123 as they stand, and what R124 clears. -/
theorem portrepReadsAndClears : Obligations.PortrepReadsAndClears := by
  intro s fp port hs hp
  rw [exec_request_outcome (v := .portrep) rfl hs rfl, perform, portrepRequest, outcome_number s _ hp]
  cases hport : portOf port with
  | none => rw [outcome_port_of_none s _ hport]
  | some p =>
    rw [outcome_port_of_some s _ hport, pure_eq_ok, outcome_ok, State.portFigures,
      portNumber_of_portOf hport]
    refine congrArg (fun figures => Host.Outcome.next (State.reply (.ok .portrep figures) _)) ?_
    dsimp only
    have hlast : Figure.text (faultOrNone (s.record p).lastError) =
        match (s.record p).lastError with
        | some e => .text (faultText e)
        | none => .text (word "NONE") := by
      cases (s.record p).lastError <;> rfl
    rw [hlast]
    cases (s.record p).profile with
    | none => rcases (s.record p).loopResult with _ | ⟨_ | _, _⟩ <;> cases s.runOf p <;> rfl
    | some q => rcases (s.record p).loopResult with _ | ⟨_ | _, _⟩ <;> cases s.runOf p <;> rfl

/-! ### Loopback -/

/-- Settles O54: the checks of R144 and of R145, and then the Port that `State.loopedOn` or
`State.loopedOff` leaves. -/
theorem loopbackEnteredAndLeft : Obligations.LoopbackEnteredAndLeft := by
  intro s fp port hs hp
  have hon : wordField readMode [fp, word "ON"] 2 = .ok true := rfl
  have hoff : wordField readMode [fp, word "OFF"] 2 = .ok false := rfl
  constructor
  · rw [exec_request_outcome (v := .loop) rfl hs rfl, perform, loopRequest, outcome_number s _ hp, hon,
      ok_bind]
    cases hport : portOf port with
    | none => rw [outcome_port_of_none s _ hport]
    | some p =>
      rw [outcome_port_of_some s _ hport, if_pos rfl, outcome_refuseIf, outcome_refuseIf]
      refine if_congr Iff.rfl rfl (if_congr Option.isSome_iff_ne_none rfl rfl)
  · rw [exec_request_outcome (v := .loop) rfl hs rfl, perform, loopRequest, outcome_number s _ hp, hoff,
      ok_bind]
    cases hport : portOf port with
    | none => rw [outcome_port_of_none s _ hport]
    | some p =>
      rw [outcome_port_of_some s _ hport, if_neg Bool.false_ne_true, outcome_refuseIf, pure_eq_ok,
        outcome_ok]
      refine if_congr Iff.rfl rfl ?_
      rw [State.loopedOff, State.afterLoop]
      cases (s.mlu p).lineUp <;> rfl

/-! ### Reports -/

/-- The part field of a RATEREP reads the digit of a class as that class (R54). -/
theorem readPart_class (c : Fin 8) : readPart [digitChar (c.val + 1)] = some (.ofClass (c.val + 1)) := by
  revert c
  decide

/-- The bands of a class from 1 to 8 stand in a report slot by slot (R54). -/
theorem partFigures_ofClass (t : RateTable) (c : Fin 8) :
    t.partFigures (.ofClass (c.val + 1)) = ((t.bands.get c).toList.map bandFigures).flatten :=
  dif_pos ⟨Nat.succ_pos _, c.isLt⟩

/-- Settles O47: each report in its order of figures. -/
theorem reportsChangeNothing : Obligations.ReportsChangeNothing := by
  intro s hs
  refine ⟨?funds, ?portfunds, ?stockrep, ?discrep, ?bands, ?surcharges, ?tiers⟩
  case funds =>
    rw [exec_request_outcome (v := .funds) rfl hs rfl]
    rfl
  case portfunds =>
    intro fp port hp
    rw [exec_request_outcome (v := .portfunds) rfl hs rfl, perform, portfundsRequest,
      outcome_number s _ hp]
    cases hport : portOf port with
    | none => rw [outcome_port_of_none s _ hport]
    | some p =>
      rw [outcome_port_of_some s _ hport]
      rfl
  case stockrep =>
    intro fl i hl
    rw [exec_request_outcome (v := .stockrep) rfl hs rfl, perform, stockrepRequest,
      outcome_lineField s _ hl, pure_eq_ok, outcome_ok, StockLine.figures]
    dsimp only
    cases (s.stockLine i).form <;> rfl
  case discrep =>
    intro ff start hf
    rw [exec_request_outcome (v := .discrep) rfl hs rfl, perform, discrepRequest,
      outcome_number s _ hf, outcome_refuseIf]
    by_cases hrange : start < 1 ∨ 16 < start
    · rw [if_pos hrange, if_pos hrange]
    · have hlength : ((s.ret.log.drop (start - 1)).take 4).length = min 4 (s.ret.log.length + 1 - start) := by
        rw [List.length_take, List.length_drop]
        omega
      rw [if_neg hrange, if_neg hrange, pure_eq_ok, outcome_ok, hlength]
      rfl
  case bands =>
    intro c
    have hpart : wordField readPart [word "CURRENT", [digitChar (c.val + 1)]] 2 =
        .ok (.ofClass (c.val + 1)) :=
      (wordField_eq_ok _ _ _ _).2 ⟨List.cons_ne_nil _ _, readPart_class c⟩
    have htable : wordField readTable [word "CURRENT", [digitChar (c.val + 1)]] 1 = .ok .current := rfl
    rw [exec_request_outcome (v := .raterep) rfl hs rfl, perform, raterepRequest, htable, ok_bind, hpart,
      ok_bind, pure_eq_ok, outcome_ok, partFigures_ofClass]
    rfl
  case surcharges =>
    rw [exec_request_outcome (v := .raterep) rfl hs rfl]
    rfl
  case tiers =>
    rw [exec_request_outcome (v := .raterep) rfl hs rfl]
    rfl

end Sys2Proof.Machine

/-! SUPPORT. The Charge Computation read step by step, and QUOTE (R45 to R53); the closure of a Run written
out, and CANCEL (R59, R73 to R76, R81). -/

namespace Sys2Proof.Machine

open State

/-! ### The greatest entry of a list -/

/-- No entry is taken of the empty list alone. -/
theorem firstGreatest_eq_none_iff {α : Type} (key : α → Nat) (l : List α) :
    firstGreatest key l = none ↔ l = [] := by
  cases l with
  | nil => simp [firstGreatest]
  | cons a l =>
    simp only [firstGreatest]
    cases firstGreatest key l with
    | none => simp
    | some b => by_cases h : key a < key b <;> simp [h]

/-- Among entries in the order of their slots, the one taken has the greatest key, and ties go to the lowest
slot. -/
theorem le_firstGreatest {α : Type} (key : Nat × α → Nat) {l : List (Nat × α)}
    (hl : l.Pairwise fun a b => a.1 < b.1) {e : Nat × α} (h : firstGreatest key l = some e) :
    e ∈ l ∧ ∀ d ∈ l, key d < key e ∨ key d = key e ∧ e.1 ≤ d.1 := by
  induction l generalizing e with
  | nil => simp [firstGreatest] at h
  | cons a l ih =>
    obtain ⟨ha, hl⟩ := List.pairwise_cons.1 hl
    simp only [firstGreatest] at h
    cases hr : firstGreatest key l with
    | none =>
      obtain rfl := (firstGreatest_eq_none_iff key l).1 hr
      simp only [hr, Option.some.injEq] at h
      simp [h]
    | some b =>
      obtain ⟨hb, hmax⟩ := ih hl hr
      simp only [hr] at h
      split_ifs at h with hlt
      · obtain rfl := Option.some.inj h
        exact ⟨List.mem_cons_of_mem a hb, List.forall_mem_cons.2 ⟨.inl hlt, hmax⟩⟩
      · obtain rfl := Option.some.inj h
        refine ⟨List.mem_cons_self, List.forall_mem_cons.2 ⟨.inr ⟨rfl, le_rfl⟩, fun d hd => ?_⟩⟩
        have := hmax d hd
        have := ha d hd
        omega

/-! ### Tier selection -/

section

variable {t : RateTable} {n : Nat}

/-- With every minimum above the pieces no tier is taken (R47). -/
theorem tierFor_of_forall_lt (h : ∀ e ∈ presentSlots t.tiers, n < e.2.minimum) :
    t.tierFor n = (0, 0) := by
  have hnone : (presentSlots t.tiers).filter (fun e => e.2.minimum ≤ n) = [] := by
    simpa [List.filter_eq_nil_iff] using h
  rw [RateTable.tierFor, hnone]
  rfl

/-- With a minimum at or below the pieces the tier with the largest such minimum is taken, the lowest slot
among equals (R47). -/
theorem tierFor_of_exists_le (h : ∃ e ∈ presentSlots t.tiers, e.2.minimum ≤ n) :
    ∃ e ∈ presentSlots t.tiers, t.tierFor n = (e.1, e.2.perMille) ∧ e.2.minimum ≤ n ∧
      ∀ d ∈ presentSlots t.tiers, d.2.minimum ≤ n →
        d.2.minimum < e.2.minimum ∨ (d.2.minimum = e.2.minimum ∧ e.1 ≤ d.1) := by
  obtain ⟨a, ha, hmin⟩ := h
  have hne : (presentSlots t.tiers).filter (fun e => e.2.minimum ≤ n) ≠ [] :=
    List.ne_nil_of_mem (List.mem_filter.2 ⟨ha, decide_eq_true hmin⟩)
  obtain ⟨e, he⟩ := Option.ne_none_iff_exists'.1
    fun hn => hne ((firstGreatest_eq_none_iff (fun e : Nat × Tier => e.2.minimum) _).1 hn)
  obtain ⟨hmem, hmax⟩ := le_firstGreatest _ ((pairwise_presentSlots t.tiers).filter _) he
  simp only [List.mem_filter, decide_eq_true_eq, and_imp] at hmem hmax
  refine ⟨e, hmem.1, ?_, hmem.2, hmax⟩
  rw [RateTable.tierFor, he]

end

/-! ### The sum of the surcharges -/

section

variable {t : RateTable} {letters : List Letter}

/-- A letter absent in the table leaves no sum (R49). -/
theorem surchargeSum_of_absent (h : ∃ l ∈ letters, t.surcharges.get (Letter.index l) = none) :
    t.surchargeSum letters = none := by
  induction letters with
  | nil => simp at h
  | cons l ls ih =>
    rw [RateTable.surchargeSum, RateTable.surcharge]
    obtain hl | htail := (List.exists_mem_cons_iff _ _ _).1 h
    · rw [hl]
    · rw [ih htail]
      cases t.surcharges.get (Letter.index l) <;> rfl

/-- With every letter present the sum is that of their amounts (R49). -/
theorem surchargeSum_of_present (h : ∀ l ∈ letters, t.surcharges.get (Letter.index l) ≠ none) :
    t.surchargeSum letters =
      some (letters.map fun l => (t.surcharges.get (Letter.index l)).getD 0).sum := by
  induction letters with
  | nil => rfl
  | cons l ls ih =>
    obtain ⟨hl, htail⟩ := List.forall_mem_cons.1 h
    obtain ⟨a, ha⟩ := Option.ne_none_iff_exists'.1 hl
    simp only [RateTable.surchargeSum, RateTable.surcharge, ih htail, ha, List.map_cons, List.sum_cons,
      Option.getD_some]

end

/-! ### The Charge Computation -/

section

variable {t : RateTable} {c w n : Nat} {letters : Option (List Letter)} {band : Nat × Band}

/-- The computation fails as its lookup does (R45, R46). -/
theorem computeCharge_of_lookup_error {x : ChargeFault} (h : bandLookup (t.classBands c) w = .error x) :
    computeCharge t c w letters n = .error x := by
  rw [computeCharge, h]
  rfl

/-- With a band found and no sum of the surcharges the computation fails NOSURCH (R49). -/
theorem computeCharge_of_no_sum (h : bandLookup (t.classBands c) w = .ok band)
    (hsum : letters.bind t.surchargeSum = none) : computeCharge t c w letters n = .error .nosurch := by
  rw [computeCharge, h, ok_bind, hsum]

/-- With a band and a sum found, the charge and then the total are judged (R48 to R51). -/
theorem computeCharge_of_sum (h : bandLookup (t.classBands c) w = .ok band) {sum : Nat}
    (hsum : letters.bind t.surchargeSum = some sum) :
    computeCharge t c w letters n =
      let d := (band.2.rate * (1000 - (t.tierFor n).2) + 500) / 1000
      if d + sum = 0 then .error .zero
      else if 99999999 < (d + sum) * n then .error .overflow
      else .ok ⟨t.edition, band.1, (t.tierFor n).1, band.2.rate, (t.tierFor n).2, d, d + sum,
        (d + sum) * n⟩ := by
  rw [computeCharge, h, ok_bind, hsum]
  rfl

/-- The figures of a computation that succeeds (R51). -/
theorem computeCharge_figures {letters : List Letter} {r : ChargeResult}
    (h : computeCharge t c w (some letters) n = .ok r) :
    ∃ b sum, bandLookup (t.classBands c) w = .ok (r.bandSlot, b) ∧ r.rate = b.rate ∧
      t.tierFor n = (r.tierSlot, r.perMille) ∧ t.surchargeSum letters = some sum ∧
      r.discounted = (r.rate * (1000 - r.perMille) + 500) / 1000 ∧
      r.charge = r.discounted + sum ∧ 1 ≤ r.charge ∧ r.total = r.charge * n ∧
      r.total ≤ 99999999 ∧ r.edition = t.edition := by
  cases hband : bandLookup (t.classBands c) w with
  | error x => rw [computeCharge_of_lookup_error hband] at h; cases h
  | ok band =>
    cases hsum : t.surchargeSum letters with
    | none => rw [computeCharge_of_no_sum hband (letters := some letters) hsum] at h; cases h
    | some sum =>
      rw [computeCharge_of_sum hband (letters := some letters) hsum] at h
      dsimp only at h
      split_ifs at h with hzero hmax
      cases h
      exact ⟨band.2, sum, rfl, rfl, rfl, rfl, rfl, rfl, Nat.one_le_iff_ne_zero.2 hzero, rfl,
        Nat.le_of_not_lt hmax, rfl⟩

end

/-! ### QUOTE -/

/-- The table field of a QUOTE that names a table (R52). -/
def TableName.text : TableName → Text
  | .current => word "CURRENT"
  | .next => word "NEXT"

/-- A table's name is read back. -/
theorem wordField_table (name : TableName) (fs : List Text) :
    wordField readTable (name.text :: fs) 1 = .ok name := by
  cases name <;> rfl

/-- The checks of a QUOTE whose table is named and whose class and weight are readable (R52). -/
theorem exec_quote {s : State} (hs : s.HostReady) (name : TableName) {fc fw : Text} {c w : Nat}
    (hc : readNumber 1 fc = some c) (hw : readNumber 5 fw = some w) (fu fn : Text) :
    exec (.quote [name.text, fc, fw, fu, fn]) s = s.outcome .quote
      (match readLetters fu with
      | none => do
        refuseIf (c < 1 ∨ 8 < c) .range 2
        refuse .range 4
      | some letters => do
        let n ← number [name.text, fc, fw, fu, fn] 5 5
        refuseIf (c < 1 ∨ 8 < c) .range 2
        refuseIf (n < 1 ∨ Config.piecesMax < n) .range 5
        match computeCharge (s.table name) c w (some letters) n with
        | .error e => refuse (quoteFault e).1 (quoteFault e).2
        | .ok r => pure (s, .ok .quote
            [.num r.bandSlot, .num r.tierSlot, .num r.discounted, .num r.charge, .num r.total])) := by
  rw [exec_request_outcome (v := .quote) rfl hs rfl, perform, quoteRequest, wordField_table, ok_bind,
    outcome_number s _ hc, outcome_number s _ hw]
  rfl

/-- Each fault of the computation refuses a QUOTE with its word, and a success answers with the figures
(R52). -/
theorem outcome_charge (s : State) (x : Except ChargeFault ChargeResult) :
    s.outcome .quote
      (match x with
      | .error e => refuse (quoteFault e).1 (quoteFault e).2
      | .ok r => pure (s, .ok .quote
          [.num r.bandSlot, .num r.tierSlot, .num r.discounted, .num r.charge, .num r.total])) =
      match x with
      | .error .noclass => s.refusal .quote .noclass 2
      | .error .noband => s.refusal .quote .noband 3
      | .error .nosurch => s.refusal .quote .nosurch 4
      | .error .zero => s.refusal .quote .zero 0
      | .error .overflow => s.refusal .quote .overflow 5
      | .ok r => .next (s.reply (.ok .quote
          [.num r.bandSlot, .num r.tierSlot, .num r.discounted, .num r.charge, .num r.total])) := by
  cases x with
  | error e => cases e <;> rfl
  | ok r => rfl

/-- Letters that are none are refused after the range of the class, whatever the pieces (log entry 7). -/
theorem exec_quote_bad_letters {s : State} (hs : s.HostReady) (name : TableName) {fc fw fu : Text} {c w : Nat}
    (hc : readNumber 1 fc = some c) (hw : readNumber 5 fw = some w) (hu : readLetters fu = none) (fn : Text) :
    exec (.quote [name.text, fc, fw, fu, fn]) s =
      if c < 1 ∨ 8 < c then s.refusal .quote .range 2 else s.refusal .quote .range 4 := by
  rw [exec_quote hs name hc hw, hu]
  exact outcome_refuseIf s _ _ _ _ _

/-- Settles O37: the checks of a QUOTE one after another, then each step of the Charge Computation. -/
theorem quoteComputesCharge : Obligations.QuoteComputesCharge := by
  refine ⟨?table, ?checks, ?faulty, ?tier, fun _ _ _ _ _ _ => computeCharge_of_lookup_error, ?charge,
    fun _ _ _ _ _ _ => computeCharge_figures⟩
  case table =>
    intro s ft fc fw fu fn hs hne hcurrent hnext
    have hfield : wordField readTable [ft, fc, fw, fu, fn] 1 = refuse .range 1 := by
      have hread : readTable ft = none := by rw [readTable, if_neg hcurrent, if_neg hnext]
      rw [wordField, refuseIf_of_not _ _ (by exact hne), ok_bind]
      exact congrArg (fun o => orRefuse o RefusalWord.range 1) hread
    rw [exec_request_outcome (v := .quote) rfl hs rfl, perform, quoteRequest, hfield]
    rfl
  case checks =>
    rintro s name ft fc fw fu fn c w n hs rfl hc hw hn
    change exec (.quote [name.text, fc, fw, fu, fn]) s = _
    cases hu : readLetters fu with
    | none => exact exec_quote_bad_letters hs name hc hw hu fn
    | some letters =>
      rw [exec_quote hs name hc hw, hu, outcome_number s _ hn, outcome_refuseIf, outcome_refuseIf]
      refine if_congr Iff.rfl rfl (if_congr Iff.rfl rfl ?_)
      exact outcome_charge s _
  case faulty =>
    rintro s name ft fc fw fu fn c w hs rfl hc hw
    change (_ → exec (.quote [name.text, fc, fw, fu, fn]) s = _) ∧
      (_ → _ → exec (.quote [name.text, fc, fw, fu, fn]) s = _)
    refine ⟨fun hu => exec_quote_bad_letters hs name hc hw hu fn, fun hu hn => ?_⟩
    obtain ⟨letters, hu⟩ := Option.isSome_iff_exists.1 hu
    rw [exec_quote hs name hc hw, hu, outcome_number_of_none s _ hn]
  case tier =>
    intro t n
    exact ⟨tierFor_of_forall_lt, tierFor_of_exists_le⟩
  case charge =>
    intro t c w n slot b hband
    refine ⟨computeCharge_of_no_sum hband rfl, fun letters => ⟨fun habsent => ?_, fun hpresent => ?_⟩⟩
    · exact computeCharge_of_no_sum hband (surchargeSum_of_absent habsent)
    · rw [computeCharge_of_sum hband (letters := some letters) (surchargeSum_of_present hpresent)]
      refine ⟨fun hzero => if_pos hzero, fun hzero hmax => ?_, fun hzero hmax => ?_⟩
      · exact (if_neg hzero).trans (if_pos hmax)
      · exact ⟨_, (if_neg hzero).trans (if_neg hmax.not_gt), rfl, rfl⟩

/-! ### CANCEL -/

section

variable {s : State} {p : Port} {f : MeterFrame}

/-- A record sent unasked is composed when a slot is free and nothing is owed (R81). -/
theorem sendUnasked_of_free (hslot : (s.mlu p).slots.hasFree = true) (howed : (s.mlu p).owed = none) :
    s.sendUnasked p f = s.compose p f := by
  rw [sendUnasked, hslot, howed]
  rfl

/-- A record sent unasked is owed when no slot is free or a record is owed already (R81). -/
theorem sendUnasked_of_not_free (h : (s.mlu p).slots.hasFree = false ∨ (s.mlu p).owed ≠ none) :
    s.sendUnasked p f = s.setMlu p { s.mlu p with owed := some f } := by
  rw [sendUnasked, if_neg]
  obtain hslot | howed := h
  · simp [hslot]
  · simp [howed]

/-- A closure with the RUNEND sent unasked, where another record is owed: the RUNEND is owed in its place
(R59, R81). -/
theorem closeUnasked_of_owed {owed : MeterFrame} (h : (s.mlu p).owed = some owed) (r : Run)
    (reason : RunReason) :
    s.closeUnasked p r reason = (((s.returnReserved p).removeRun p).setMlu p
      { s.mlu p with owed := some (runendFrame r reason) }).post (runendNotice p r reason) := by
  have hmlu : (((s.returnReserved p).removeRun p).mlu p).owed ≠ none := by
    change (s.mlu p).owed ≠ none
    rw [h]
    exact Option.some_ne_none owed
  rw [closeUnasked, sendUnasked_of_not_free (.inr hmlu)]
  rfl

end

/-- Settles O38: CANCEL by the state of the Run; then what sending unasked and a closure with its RUNEND
sent unasked leave. -/
theorem cancelByStateOfRun : Obligations.CancelByStateOfRun := by
  refine ⟨?cancel, fun _ _ _ => ⟨sendUnasked_of_free, sendUnasked_of_not_free⟩,
    fun _ _ _ _ => rfl, fun _ _ r _ h => closeUnasked_of_owed h r .cancelled⟩
  intro s fp port hs hp
  rw [exec_request_outcome (v := .cancel) rfl hs rfl, perform, cancelRequest, outcome_number s _ hp]
  cases hport : portOf port with
  | none => rw [outcome_port_of_none s _ hport]
  | some p =>
    rw [outcome_port_of_some s _ hport]
    dsimp only
    cases s.runOf p with
    | none => rfl
    | some r =>
      rw [outcome_orRefuse_some, outcome_refuseIf]
      dsimp only
      cases hstate : r.state with
      | cancelling => rfl
      | waiting => rfl
      | active =>
        rw [if_neg (by decide), if_neg (by decide), apply_ite (s.outcome .cancel),
          apply_ite (s.outcome .cancel)]
        rfl

end Sys2Proof.Machine

/-! SUPPORT. Reading the Notices and the status (R157, R161 to R163), and the restarts that a RESTART or a
REINIT leads to (R158, R159, R171, R172). -/

namespace Sys2Proof.Machine

open State

/-! ### NOTICES -/

/-- Whether the reply with the first `k` of the Notices fits the host line (R163). -/
def NoticesFit (lost : Bool) (held : List Notice) (k : Nat) : Prop :=
  (noticesReply lost held k).onLine.length ≤ 240

/-- Notices are taken one by one from `k` on, until the fuel is used, none is left, or one more would not
fit (R163). -/
theorem noticesTaken_spec (lost : Bool) (held : List Notice) (fuel k : Nat) (hk : k ≤ held.length)
    (hfit : k = 0 ∨ NoticesFit lost held k) :
    let m := noticesTaken lost held fuel k
    m ≤ k + fuel ∧ m ≤ held.length ∧ (m = 0 ∨ NoticesFit lost held m) ∧
      (m = k + fuel ∨ m = held.length ∨ ¬NoticesFit lost held (m + 1)) := by
  induction fuel generalizing k with
  | zero => exact ⟨le_rfl, hk, hfit, .inl rfl⟩
  | succ fuel ih =>
    by_cases hmore : k < held.length ∧ NoticesFit lost held (k + 1)
    · have hnext : noticesTaken lost held (fuel + 1) k = noticesTaken lost held fuel (k + 1) := if_pos hmore
      simpa only [hnext, Nat.add_assoc, Nat.add_comm 1] using ih (k + 1) hmore.1 (.inr hmore.2)
    · have hend : noticesTaken lost held (fuel + 1) k = k := if_neg hmore
      rw [hend]
      refine ⟨Nat.le_add_right _ _, hk, hfit, .inr ?_⟩
      obtain hnone | hlong := not_and_or.1 hmore
      · exact .inl (le_antisymm hk (Nat.le_of_not_lt hnone))
      · exact .inr hlong

/-- A Notice posted leaves the attention output asserted (R162). -/
theorem post_attention (s : State) (n : Notice) : (s.post n).attention = true := by
  rw [post]
  split_ifs <;> simp [attention]

/-- The attention output is asserted exactly while a Notice is held (R162). -/
theorem attention_iff (s : State) : s.attention = true ↔ s.notices ≠ [] := by
  simp [attention]

/-- Settles O58: the Notices that NOTICES takes, the post of a Notice with the attention output, and STATUS
in either device state. -/
theorem noticesAndStatusRead : Obligations.NoticesAndStatusRead := by
  refine ⟨?notices, ?post, ?status⟩
  case notices =>
    intro s hs
    obtain ⟨hfour, hheld, hfit, hmax⟩ :=
      noticesTaken_spec s.lost s.notices 4 0 (Nat.zero_le _) (.inl rfl)
    refine ⟨noticesTaken s.lost s.notices 4 0, hfour, hheld, ?_, hfit, ?_⟩
    · rw [exec_request_outcome (v := .notices) rfl hs rfl]
      rfl
    · exact hmax.imp_right (Or.imp_right Nat.lt_of_not_le)
  case post =>
    intro s n
    exact ⟨fun h => if_pos h, fun h => if_neg h.not_gt, attention_iff s, post_attention s n⟩
  case status =>
    intro s h
    rw [exec_hostFree (v := .status) rfl h, answerRequest_verb, HostVerb.servedLocked, Bool.not_true,
      Bool.and_false]
    rfl

/-! ### Restarts -/

section

variable {s : State} {c : Cause}

/-- The restart that is pending reads the straps and samples the lines again (R158, R172). -/
theorem restartNow_of_pending (h : s.host.restartPending = some c) :
    s.restartNow = ({ s with sampled := s.sampled + 1 } : State).startFrom c
      (Config.pinsFound s.sampled) := by
  rw [restartNow, h]

/-- A host break that discards the reply of the pending restart restarts the part there (R159). -/
theorem hostBreaks_restarts (hpending : s.host.restartPending = some c) {begun : Bool}
    (hkept : ((s.host.slots.keepBegun (s.host.begun || begun)).frames.any HostReply.isRestart) = false) :
    s.hostBreaks begun = ({ s with sampled := s.sampled + 1 } : State).startFrom c
      (Config.pinsFound s.sampled) := by
  rw [hostBreaks, if_pos (by simp [hpending, hkept, setHost])]
  exact restartNow_of_pending hpending

/-- A reply that is not the restart's own is no restart whether it is kept or not. -/
theorem keepBegun_two_any {a : SlotName} {ahead r : HostReply} (h : ahead.isRestart = false) (known : Bool) :
    (((Slots.two a ahead r).keepBegun known).frames.any HostReply.isRestart) = false := by
  cases known
  · rfl
  · simp [Slots.keepBegun, Slots.frames, h]

/-- With no reply begun, and at most one composed, a host break keeps none (R151). -/
theorem keepBegun_false_any {slots : Slots HostReply} (h : ∀ a x y, slots ≠ .two a x y) :
    (slots.keepBegun false).frames.any HostReply.isRestart = false := by
  cases slots with
  | empty _ => rfl
  | one _ _ => rfl
  | two a x y => exact absurd rfl (h a x y)

/-- The end of the reply of a pending restart restarts the part (R158, R171). -/
theorem hostSlotFrees_restarts {r : HostReply} (hslot : s.host.slots.first = some r)
    (hr : r.isRestart = true) (hpending : s.host.restartPending = some c) :
    s.hostSlotFrees = ({ s with sampled := s.sampled + 1 } : State).startFrom c
      (Config.pinsFound s.sampled) := by
  rw [hostSlotFrees, hslot]
  dsimp only
  rw [if_pos (by simp [hr, hpending]), restartNow_of_pending hpending]

/-- The row of a start-up at the end of the reply of the pending restart (R171, R172). -/
theorem restartEvent_restarts {r : HostReply} (hslot : s.host.slots.first = some r)
    (hr : r.isRestart = true) (hpending : s.host.restartPending = some c) (pins : Pins) :
    s.restartEvent c pins = s.startFrom c pins :=
  if_pos (by simp [hslot, hr, hpending])

end

/-- Settles O59: RESTART and REINIT answered; the restart at a host break before the reply has begun; the
reply kept after it has begun; and the restart at the end of the reply. -/
theorem restartsFollowTheirReply : Obligations.RestartsFollowTheirReply := by
  refine ⟨?requests, ?reinit, ?ahead, ?kept, ?gone⟩
  case requests =>
    intro s hs
    constructor
    · rw [exec_request_outcome (v := .restart) rfl hs rfl]
      rfl
    · rw [exec_request_outcome (v := .reinit) rfl hs rfl, perform, reinitRequest, outcome_refuseIf,
        if_pos hs.normal]
  case reinit =>
    intro s h hlocked
    rw [exec_hostFree (v := .reinit) rfl h, answerRequest_verb, HostVerb.servedLocked, Bool.not_true,
      Bool.and_false, perform, reinitRequest, refuseIf_of_not _ _ (by simp [hlocked])]
    rfl
  case ahead =>
    intro s a ahead r c begun hrun hslots hahead hpending
    change s.during (hostBreaks begun) = _
    rw [during_running hrun, hostBreaks_restarts hpending]
    rw [hslots]
    exact keepBegun_two_any hahead _
  case kept =>
    intro s a r c begun hrun hslots hr hpending hbegun
    have hknown : (s.host.begun || begun) = true := by simpa using hbegun
    have hkept : (Slots.one a r).keepBegun true = .one a r := rfl
    have hfirst : s.host.slots.first.isSome = true := by rw [hslots]; rfl
    change s.during (hostBreaks begun) = _
    rw [during_running hrun, hostBreaks, hknown, hslots, hkept, if_neg (by simp [Slots.frames, hr]),
      ← hslots, hfirst]
    rfl
  case gone =>
    intro s r c pins hrun hslot hr hpending
    refine ⟨?_, ?_, ?_, fun hbegun htwo => ?_⟩
    · change s.during hostSlotFrees = _
      rw [during_running hrun, hostSlotFrees_restarts hslot hr hpending]
    · rintro rfl
      change s.during (restartEvent .restart pins) = _
      rw [during_running hrun, restartEvent_restarts hslot hr hpending]
    · rintro rfl
      change s.during (restartEvent .reinit pins) = _
      rw [during_running hrun, restartEvent_restarts hslot hr hpending]
    · change s.during (hostBreaks false) = _
      rw [during_running hrun, hostBreaks_restarts hpending]
      rw [hbegun]
      exact keepBegun_false_any htwo

end Sys2Proof.Machine

/-! SUPPORT. The pool-increase pass seen from one Port and from the queue (R9 to R11, R65). -/

namespace Sys2Proof.Machine

open State

/-! ### What an operation at one Port leaves at another -/

/-- The Run, the Meter Line Unit and the working record of a Port. -/
structure AtPort where
  run : Option Run
  mlu : Mlu
  record : PortRecord

/-- What stands at a Port. -/
def State.atPort (s : State) (q : Port) : AtPort := ⟨s.runOf q, s.mlu q, s.record q⟩

section

variable {s t : State} {p q : Port}

theorem runOf_of_atPort (h : t.atPort q = s.atPort q) : t.runOf q = s.runOf q := congrArg AtPort.run h

theorem mlu_of_atPort (h : t.atPort q = s.atPort q) : t.mlu q = s.mlu q := congrArg AtPort.mlu h

theorem record_of_atPort (h : t.atPort q = s.atPort q) : t.record q = s.record q :=
  congrArg AtPort.record h

variable (s p)

theorem setRun_atPort (h : q ≠ p) (x : Option Run) : (s.setRun p x).atPort q = s.atPort q := by
  simp [atPort, h]

theorem setMlu_atPort (h : q ≠ p) (m : Mlu) : (s.setMlu p m).atPort q = s.atPort q := by
  simp [atPort, h]

theorem post_atPort (n : Notice) : (s.post n).atPort q = s.atPort q := by
  simp [atPort]

theorem markShort_atPort (h : q ≠ p) (c : ShortCause) (n : Nat) :
    (s.markShort p c n).atPort q = s.atPort q := by
  unfold markShort
  split_ifs
  · rfl
  · rw [post_atPort]
    simp [atPort, h, setShort]

/-- The low-mark check of a Port changes nothing at another but funds (R24). -/
theorem lowMarkCheck_atPort (h : q ≠ p) : (s.lowMarkCheck p).atPort q = s.atPort q := by
  unfold lowMarkCheck
  split_ifs
  · rfl
  · rfl
  · exact markShort_atPort s p h _ _
  · rfl
  · exact markShort_atPort (s.draw p s.ret.pool) p h _ _

theorem restartSilence_atPort (h : q ≠ p) : (s.restartSilence p).atPort q = s.atPort q := by
  unfold restartSilence
  split
  · exact setRun_atPort s p h _
  · rfl

theorem debit_atPort (h : q ≠ p) (b : Nat) : (s.debit p b).atPort q = s.atPort q := by
  unfold debit
  split
  · exact setRun_atPort s p h _
  · rfl

/-- The composition of a frame changes nothing at another Port (R67, R68). -/
theorem compose_atPort (h : q ≠ p) (f : MeterFrame) : (s.compose p f).atPort q = s.atPort q := by
  have hput : (s.putFrame p f).atPort q = s.atPort q := setMlu_atPort s p h _
  unfold compose
  split
  · rw [restartSilence_atPort _ _ h, debit_atPort _ _ h, hput]
  · rw [restartSilence_atPort _ _ h, debit_atPort _ _ h, hput]
  · rw [restartSilence_atPort _ _ h, hput]
  · exact hput

theorem sendUnasked_atPort (h : q ≠ p) (f : MeterFrame) : (s.sendUnasked p f).atPort q = s.atPort q := by
  unfold sendUnasked
  split_ifs
  · exact compose_atPort s p h f
  · exact setMlu_atPort s p h _

/-- The service of a head changes nothing at another Port (R10). -/
theorem serveHead_atPort (h : q ≠ p) (r : Run) : (s.serveHead p r).atPort q = s.atPort q := by
  rw [serveHead, sendUnasked_atPort _ _ h, lowMarkCheck_atPort _ _ h]
  exact setRun_atPort _ p h _

/-- A visit of step 2 changes funds alone (R11). -/
theorem topUp_atPort : (s.topUp p).atPort q = s.atPort q := by
  unfold topUp
  split_ifs <;> rfl

variable {p}

/-- The pass leaves what stands at a Port with no Run. -/
theorem pass_atPort_of_none (h : s.runOf q = none) : s.pass.atPort q = s.atPort q := by
  refine pass_keeps s (P := fun t => t.atPort q = s.atPort q) (fun t p r ht _ hr _ => ?_)
    (fun t p _ ht => (topUp_atPort t p).trans ht) rfl
  have hne : q ≠ p := by
    rintro rfl
    rw [runOf_of_atPort ht, h] at hr
    cases hr
  exact (serveHead_atPort t p hne r).trans ht

end

/-! ### The Run of the head served -/

section

variable {s : State} {p : Port}

/-- A Run is held with this state. -/
def State.RunIn (s : State) (p : Port) (st : RunState) : Prop := ∃ r, s.runOf p = some r ∧ r.state = st

theorem setRun_runIn (s : State) (p : Port) (r : Run) : (s.setRun p (some r)).RunIn p r.state :=
  ⟨r, by rw [setRun_runOf, if_pos rfl], rfl⟩

theorem restartSilence_runIn {st : RunState} (h : s.RunIn p st) : (s.restartSilence p).RunIn p st := by
  obtain ⟨r, hr, hst⟩ := h
  rw [restartSilence, hr, ← hst]
  exact setRun_runIn s p _

theorem debit_runIn {st : RunState} (h : s.RunIn p st) (b : Nat) : (s.debit p b).RunIn p st := by
  obtain ⟨r, hr, hst⟩ := h
  rw [debit, hr, ← hst]
  exact setRun_runIn s p _

/-- The composition of a frame leaves the state of the Run (R67, R68). -/
theorem compose_runIn {st : RunState} (h : s.RunIn p st) (f : MeterFrame) : (s.compose p f).RunIn p st := by
  have hput : (s.putFrame p f).RunIn p st := h
  unfold compose
  split
  · exact restartSilence_runIn (debit_runIn hput _)
  · exact restartSilence_runIn (debit_runIn hput _)
  · exact restartSilence_runIn hput
  · exact hput

theorem sendUnasked_runIn {st : RunState} (h : s.RunIn p st) (f : MeterFrame) :
    (s.sendUnasked p f).RunIn p st := by
  unfold sendUnasked
  split_ifs
  · exact compose_runIn h f
  · exact h

/-- The Run of a head served is ACTIVE (R10). -/
theorem serveHead_runIn (s : State) (p : Port) (r : Run) : (s.serveHead p r).RunIn p .active := by
  refine sendUnasked_runIn ?_ _
  rw [RunIn, lowMarkCheck_runOf]
  exact setRun_runIn _ p _

end

/-! ### The queue in the pass -/

/-- From `s` to `t` the first `k` Runs of the queue have become ACTIVE and left it; every other Run is as it
was. -/
structure ServedFirst (k : Nat) (s t : State) : Prop where
  queue : t.ret.queue = s.ret.queue.drop k
  served : ∀ p ∈ s.ret.queue.take k, t.RunIn p .active
  others : ∀ p, p ∉ s.ret.queue.take k → t.runOf p = s.runOf p

/-- The service of a head serves one Run more. -/
theorem ServedFirst.serveHead {k : Nat} {s t : State} (h : ServedFirst k s t) (hs : s.ret.queue.Nodup)
    {p : Port} (hp : t.ret.queue.head? = some p) (r : Run) : ServedFirst (k + 1) s (t.serveHead p r) := by
  have hget : s.ret.queue[k]? = some p := by rw [← List.head?_drop, ← h.queue, hp]
  have htake : s.ret.queue.take (k + 1) = s.ret.queue.take k ++ [p] := by
    rw [List.take_add_one, hget]
    rfl
  have hfresh : p ∉ s.ret.queue.take k := by
    have hnodup : (s.ret.queue.take (k + 1)).Nodup := hs.sublist (List.take_sublist _ _)
    rw [htake] at hnodup
    exact fun hmem => (List.nodup_append.1 hnodup).2.2 p hmem p (List.mem_singleton_self p) rfl
  refine ⟨by rw [serveHead_queue, h.queue, List.drop_drop], fun q hq => ?_, fun q hq => ?_⟩
  · rw [htake, List.mem_append, List.mem_singleton] at hq
    obtain hq | rfl := hq
    · have hne : q ≠ p := fun e => hfresh (e ▸ hq)
      obtain ⟨r', hr', hstate⟩ := h.served q hq
      exact ⟨r', (runOf_of_atPort (serveHead_atPort t p hne r)).trans hr', hstate⟩
    · exact serveHead_runIn t q r
  · rw [htake, List.mem_append, List.mem_singleton, not_or] at hq
    rw [runOf_of_atPort (serveHead_atPort t p hq.2 r), h.others q hq.1]

theorem ServedFirst.topUp {k : Nat} {s t : State} (h : ServedFirst k s t) (p : Port) :
    ServedFirst k s (t.topUp p) := by
  have hrun : ∀ q, (t.topUp p).runOf q = t.runOf q := fun q => runOf_of_atPort (topUp_atPort t p)
  refine ⟨(topUp_queue t p).trans h.queue, fun q hq => ?_, fun q hq => (hrun q).trans (h.others q hq)⟩
  obtain ⟨r, hr, hstate⟩ := h.served q hq
  exact ⟨r, (hrun q).trans hr, hstate⟩

/-- The pass serves some first Runs of the queue (R10). -/
theorem pass_servedFirst {s : State} (hs : s.ret.queue.Nodup) : ∃ k, ServedFirst k s s.pass :=
  pass_keeps s (P := fun t => ∃ k, ServedFirst k s t)
    (fun _ _ r ⟨k, h⟩ hp _ _ => ⟨k + 1, h.serveHead hs hp r⟩) (fun _ p _ ⟨k, h⟩ => ⟨k, h.topUp p⟩)
    ⟨0, rfl, by simp, fun _ _ => rfl⟩

/-! ### The visits of step 2 -/

section

variable {s : State} {p : Port}

/-- A Port that is not short is left alone (R11). -/
theorem topUp_of_not_short (h : (s.fundsOf p).short = false) : s.topUp p = s := if_neg (by simp [h])

/-- A short Port at its Target has its flag cleared (R11). -/
theorem topUp_of_target_le (h : (s.fundsOf p).short = true)
    (ht : (s.fundsOf p).target ≤ (s.fundsOf p).available) : s.topUp p = s.setShort p false := by
  rw [topUp, if_pos h, if_pos ht]

section

variable (h : (s.fundsOf p).short = true) (ht : (s.fundsOf p).available < (s.fundsOf p).target)

include h ht

/-- A short Port draws what it wants when the pool covers it (R11). -/
theorem topUp_of_want_le (hw : s.want p ≤ s.ret.pool) :
    s.topUp p = (s.setPool (s.ret.pool - s.want p)).setFunds p
      { s.fundsOf p with available := (s.fundsOf p).available + s.want p, short := false } := by
  rw [topUp, if_pos h, if_neg ht.not_ge, Nat.min_eq_right hw, decide_eq_false hw.not_gt, setShort_draw]

/-- A short Port draws all of a pool that does not cover what it wants, and stays short (R11). -/
theorem topUp_of_pool_lt_want (hw : s.ret.pool < s.want p) :
    s.topUp p = (s.setPool 0).setFunds p
      { s.fundsOf p with available := (s.fundsOf p).available + s.ret.pool } := by
  rw [topUp, if_pos h, if_neg ht.not_ge, Nat.min_eq_left hw.le, decide_eq_true hw, setShort_draw,
    Nat.sub_self, ← h]

end

/-- A Port is left short only with the pool at 0. -/
def State.Topped (s : State) (p : Port) : Prop := (s.fundsOf p).short = true → s.ret.pool = 0

/-- A visit leaves its Port short only with the pool at 0. -/
theorem topUp_topped (s : State) (p : Port) : (s.topUp p).Topped p := by
  intro h
  cases hshort : (s.fundsOf p).short with
  | false =>
    rw [topUp_of_not_short hshort, hshort] at h
    cases h
  | true =>
    obtain ht | ht := le_or_gt (s.fundsOf p).target (s.fundsOf p).available
    · rw [topUp_of_target_le hshort ht] at h
      simp [setShort] at h
    · obtain hw | hw := le_or_gt (s.want p) s.ret.pool
      · rw [topUp_of_want_le hshort ht hw] at h
        simp at h
      · rw [topUp_of_pool_lt_want hshort ht hw]
        rfl

theorem topUp_pool_le (s : State) (p : Port) : (s.topUp p).ret.pool ≤ s.ret.pool :=
  ((steady_frame s).topUp ⟨rfl, le_rfl⟩).2

theorem topUp_fundsOf_other {q : Port} (h : q ≠ p) : (s.topUp p).fundsOf q = s.fundsOf q := by
  unfold topUp
  split_ifs
  · simp [setShort, h]
  · simp [setShort, draw, h]
  · rfl

/-- A visit to another Port leaves a Port short only with the pool at 0. -/
theorem State.Topped.topUp {q : Port} (h : s.Topped q) : (s.topUp p).Topped q := by
  by_cases e : q = p
  · exact e ▸ topUp_topped s q
  · intro hshort
    rw [topUp_fundsOf_other e] at hshort
    exact Nat.le_zero.1 ((topUp_pool_le s p).trans (h hshort).le)

/-- After the visits every Port visited is short only with the pool at 0. -/
theorem foldl_topUp_topped (l : List Port) (s : State) (p : Port) (h : p ∈ l ∨ s.Topped p) :
    (l.foldl (fun t q => t.topUp q) s).Topped p := by
  induction l generalizing s with
  | nil => simpa using h
  | cons q l ih =>
    refine ih (s.topUp q) ?_
    rw [List.mem_cons] at h
    obtain (rfl | hmem) | htop := h
    · exact .inr (topUp_topped s p)
    · exact .inl hmem
    · exact .inr htop.topUp

theorem mem_allPorts (p : Port) : p ∈ allPorts := by
  revert p
  decide

/-- Once no Run waits, a Port is left short only with the pool at 0 (R11). -/
theorem pass_topped (h : s.pass.ret.queue = []) (p : Port) : s.pass.Topped p := by
  unfold State.pass passStep2 at h ⊢
  split_ifs at h ⊢ with hq
  · exact foldl_topUp_topped allPorts _ p (.inl (mem_allPorts p))
  · exact absurd h hq

end

/-! ### The pass, head by head -/

section

variable {s : State}

/-- With no Run waiting the pass is the visits (R11). -/
theorem pass_of_empty (h : s.ret.queue = []) :
    s.pass = (((((s.topUp 0).topUp 1).topUp 2).topUp 3).topUp 4).topUp 5 := by
  rw [State.pass, h, List.length_nil, passStep1, passStep2, if_pos h]
  simp only [allPorts, List.foldl_cons, List.foldl_nil]

variable {p : Port} {rest : List Port} {r : Run} (hq : s.ret.queue = p :: rest) (hr : s.runOf p = some r)

include hq hr

/-- A head that Available and the pool cover is served, and the pass goes on (R10). -/
theorem pass_of_covered (h : r.total ≤ (s.fundsOf p).available + s.ret.pool) :
    s.pass = (s.serveHead p r).pass := by
  have hlength : (s.serveHead p r).ret.queue.length = rest.length := by
    rw [serveHead_queue, hq]
    rfl
  have hstep : passStep1 s.ret.queue.length s = passStep1 rest.length (s.serveHead p r) := by
    rw [hq, List.length_cons]
    conv_lhs => unfold passStep1
    simp only [hq, hr, if_pos h]
  rw [State.pass, hstep, State.pass, hlength]

/-- A head that they do not cover stops the pass (R10). -/
theorem pass_of_not_covered (h : (s.fundsOf p).available + s.ret.pool < r.total) : s.pass = s := by
  have hstep : passStep1 s.ret.queue.length s = s := by
    rw [hq, List.length_cons]
    unfold passStep1
    simp only [hq, hr, if_neg h.not_ge]
  rw [State.pass, hstep, passStep2, if_neg (by simp [hq])]

end

/-- Settles O32: the pass over the queue as a whole, then one head, the visits, and one visit. -/
theorem passServesQueueInOrder : Obligations.PassServesQueueInOrder := by
  refine ⟨?whole, ?head, fun _ hq => pass_of_empty hq, ?visit⟩
  case whole =>
    intro s h
    obtain ⟨k, hk⟩ := pass_servedFirst h.queue.nodup
    exact ⟨k, hk.queue, hk.served, hk.others, pass_headUnservable s, pass_pool_le s,
      fun hq p => pass_topped hq p⟩
  case head =>
    intro s p rest r hq hr
    refine ⟨fun h => ?_, fun h => pass_of_not_covered hq hr h⟩
    rw [pass_of_covered hq hr h, serveHead, hq]
    rfl
  case visit =>
    intro s p
    exact ⟨topUp_of_not_short, topUp_of_target_le, topUp_of_want_le, topUp_of_pool_lt_want⟩

end Sys2Proof.Machine

/-! SUPPORT. Line down, line up, the meter reset and the break of a meter (R117 to R120, R133, R134, R143). -/

namespace Sys2Proof.Machine

open State

section

variable {s t : State} {p : Port}

/-! ### The closure at a line event -/

/-- A closure at a line event leaves the Meter Line Unit and the working record of its Port (R82). -/
theorem closeAtLine_mlu_record (s : State) (p : Port) (reason : RunReason) :
    (s.closeAtLine p reason).mlu p = s.mlu p ∧ (s.closeAtLine p reason).record p = s.record p := by
  have hclosed : ∀ r : Run, (s.closeSilently p r reason).mlu p = s.mlu p ∧
      (s.closeSilently p r reason).record p = s.record p :=
    fun r => ⟨closeSilently_mlu s p r reason p, by simp [State.closeSilently, removeRun, returnReserved]⟩
  unfold closeAtLine
  split
  · rename_i r hr
    split_ifs
    · have hnone : (s.closeSilently p r reason).runOf p = none := by simp
      have hpass := pass_atPort_of_none _ hnone
      exact ⟨(mlu_of_atPort hpass).trans (hclosed r).1, (record_of_atPort hpass).trans (hclosed r).2⟩
    · exact hclosed _
  · exact ⟨rfl, rfl⟩

theorem closeAtLine_mlu (s : State) (p : Port) (reason : RunReason) :
    (s.closeAtLine p reason).mlu p = s.mlu p := (closeAtLine_mlu_record s p reason).1

theorem closeAtLine_record (s : State) (p : Port) (reason : RunReason) :
    (s.closeAtLine p reason).record p = s.record p := (closeAtLine_mlu_record s p reason).2

/-- The updates of the accounts and of a line's transmitter leave the serials. -/
theorem serials_shaped (s : State) : Shaped fun t => t.ret.serials = s.ret.serials where
  post t n h := (congrArg Retained.serials (post_ret t n)).trans h
  record _ _ _ _ _ h := h
  mlu _ _ _ _ h := h
  funds _ _ _ h := h
  run _ _ _ _ h := h
  queue _ _ h := h
  pool _ _ h := h

theorem closeAtLine_serialOf (s : State) (p : Port) (reason : RunReason) (q : Port) :
    (s.closeAtLine p reason).serialOf q = s.serialOf q :=
  congrArg (Vector.get · q) ((serials_shaped s).closeAtLine reason rfl)

/-- A Port that is not in the queue does not join it in the pass (R10). -/
theorem not_mem_pass_queue (h : p ∉ s.ret.queue) : p ∉ s.pass.ret.queue := by
  refine pass_keeps s (P := fun t => p ∉ t.ret.queue) (fun t q r ht _ _ _ hmem => ht ?_)
    (fun t q _ ht hmem => ht ?_) h
  · rw [serveHead_queue] at hmem
    exact List.mem_of_mem_drop hmem
  · rwa [topUp_queue] at hmem

/-- What a closure at a line event leaves of the retained contents (R82, R30). -/
theorem closedAtLine_closeAtLine (s : State) (p : Port) (reason : RunReason) :
    s.ClosedAtLine (s.closeAtLine p reason) p := by
  refine ⟨closeAtLine_runOf s p reason, fun h => by rw [closeAtLine_of_none h], fun r hr => ?_⟩
  have hleft : ∀ r', p ∉ (s.closeSilently p r' reason).ret.queue := by
    intro r'
    rw [closeSilently_ret]
    simp [removeRun, setQueue]
  by_cases hw : r.state = .waiting
  · have hclose : s.closeAtLine p reason = (s.closeSilently p r reason).pass := by
      rw [closeAtLine, hr]
      exact if_pos hw
    rw [hclose]
    exact ⟨not_mem_pass_queue (hleft r), fun h => absurd hw h⟩
  · have hclose : s.closeAtLine p reason = s.closeSilently p r.allPrinted reason := by
      rw [closeAtLine, hr]
      exact if_neg hw
    rw [hclose]
    exact ⟨hleft _, fun _ => closeSilently_ret s p _ reason⟩

/-- The closure reads and leaves the retained contents alone. -/
theorem State.ClosedAtLine.congr {s' t' : State} (h : s.ClosedAtLine t p) (hs : s'.ret = s.ret)
    (ht : t'.ret = t.ret) : s'.ClosedAtLine t' p := by
  unfold State.ClosedAtLine at h ⊢
  simpa only [runOf, fundsOf, hs, ht] using h

/-! ### The break and the discards at a Meter Line Unit -/

/-- What a break detected leaves at its Meter Line Unit (R133, R139). -/
theorem detectBreak_mlu (s : State) (p : Port) : (s.detectBreak p).mlu p =
    Mlu.beginNext { s.mlu p with rx := .idleWait, heldByUs := false, heldByMeter := false } := by
  simp [detectBreak]

/-- The transmitter of a meter that holds nothing begins the oldest frame. -/
theorem beginNext_released (m : Mlu) :
    Mlu.beginNext { m with rx := .idleWait, heldByUs := false, heldByMeter := false } =
      { m with
        rx := .idleWait
        heldByUs := false
        heldByMeter := false
        sending := m.sending || (m.slots.first.isSome && !m.drivingBreak) } := by
  simp [Mlu.beginNext]

/-- A line error is latched with its reason in one record (R121). -/
theorem latchLineError_eq (s : State) (p : Port) (reason : FaultReason) :
    s.latchLineError p reason = s.setRecord p { s.record p with
      latched := { (s.record p).latched with lineError := true }, lastError := some reason } := by
  simp [latchLineError, latch, Latches.add]

/-- A break detected while a frame is collected ends the frame BREAK (R133). -/
theorem detectBreak_of_collect {body : Text} {atSpace : Bool} (h : (s.mlu p).rx = .collect body atSpace) :
    s.detectBreak p = (s.setMlu p { s.mlu p with
      rx := .idleWait
      heldByUs := false
      heldByMeter := false
      sending := (s.mlu p).sending || ((s.mlu p).slots.first.isSome && !(s.mlu p).drivingBreak) }).setRecord
        p { s.record p with
          latched := { (s.record p).latched with lineError := true }, lastError := some .lineBreak } := by
  unfold detectBreak
  dsimp only
  rw [beginNext_released, h]
  change (s.latchLineError p .lineBreak).setMlu p _ = _
  rw [latchLineError_eq]
  rfl

/-- A break detected with no frame collected latches nothing (R133). -/
theorem detectBreak_of_not_collect (h : ∀ body atSpace, (s.mlu p).rx ≠ .collect body atSpace) :
    s.detectBreak p = s.setMlu p { s.mlu p with
      rx := .idleWait
      heldByUs := false
      heldByMeter := false
      sending := (s.mlu p).sending || ((s.mlu p).slots.first.isSome && !(s.mlu p).drivingBreak) } := by
  have hquiet : ((s.mlu p).rx.fault .lineBreak).2 = none := by
    cases hrx : (s.mlu p).rx with
    | collect body atSpace => exact absurd hrx (h body atSpace)
    | ready => rfl
    | idleWait => rfl
  unfold detectBreak
  dsimp only
  rw [beginNext_released, hquiet]

/-! ### Meter reset and line down -/

/-- A Notice posted is the last held. -/
theorem post_getLast (s : State) (n : Notice) : (s.post n).notices.getLast? = some n := by
  unfold post
  split_ifs <;> simp

/-- A state that differs from one after a meter reset in a break being driven and in the pins alone. -/
theorem State.ResetAtLine.congr {u : State} {cause : ResetCause} (h : s.ResetAtLine t p cause) {b : Bool}
    (hmlu : u.mlu p = { t.mlu p with drivingBreak := b }) (hrecord : u.record p = t.record p)
    (hret : u.ret = t.ret) (hnotices : u.notices = t.notices) : s.ResetAtLine u p cause := by
  obtain ⟨hcleared, hlineUp, hstate, hprofile, hlatched, hclosed, hlast⟩ := h
  refine ⟨?_, ?_, ?_, ?_, ?_, hclosed.congr rfl hret, ?_⟩
  · rw [hmlu]
    exact hcleared
  · rw [hmlu]
    exact hlineUp
  · rw [hrecord, hstate]
  · rw [hrecord, hprofile]
  · rw [hrecord, hlatched]
  · rw [hnotices, fundsOf, hret]
    exact hlast

/-- The Meter Line Unit that a meter reset leaves (R134). -/
theorem takeMeterReset_mlu (s : State) (p : Port) (cause : ResetCause) :
    (s.takeMeterReset p cause).mlu p = ((s.detectBreak p).mlu p).discard := by
  simp [takeMeterReset, closeAtLine_mlu, leaveReady]

/-- What a meter reset leaves at its Port (R118, R134). -/
theorem resetAtLine_takeMeterReset (s : State) (p : Port) (cause : ResetCause) :
    s.ResetAtLine (s.takeMeterReset p cause) p cause := by
  have hrecord : (s.takeMeterReset p cause).record p =
      { (s.detectBreak p).record p with
        state := .unannounced
        profile := none
        latched := ((s.detectBreak p).record p).latched.add .meterReset } := by
    simp [takeMeterReset, closeAtLine_record, leaveReady]
  refine ⟨?_, ?_, ?_, ?_, ?_, ?_, ?_⟩
  · rw [takeMeterReset_mlu, detectBreak_mlu]
    exact ⟨rfl, rfl, rfl, rfl, rfl, rfl, rfl, rfl⟩
  · rw [takeMeterReset_mlu, detectBreak_mlu]
    rfl
  · rw [hrecord]
  · rw [hrecord]
  · rw [hrecord]
    rfl
  · exact (closedAtLine_closeAtLine (((s.detectBreak p).setMlu p
      ((s.detectBreak p).mlu p).discard).leaveReady p .unannounced) p .meterreset).congr
        (by simp [leaveReady]) (by simp [takeMeterReset])
  · rw [takeMeterReset, post_fundsOf]
    exact post_getLast _ _

/-- An attached Port as line down finds it at its closure: the Meter Line Unit cleared, the line down, and
the Port ABSENT with no Profile and LINE-GOOD low (R117, R134). -/
def State.detached (s : State) (p : Port) : State :=
  ((s.detectBreak p).setMlu p
    { ((s.detectBreak p).mlu p).discard with lineUp := false, drivingBreak := false }).setRecord p
      { (s.detectBreak p).record p with lineGood := false, state := .absent, profile := none }

/-- Line down closes the Run of the Port detached and posts DETACH (R117). -/
theorem takeLineDown_eq (s : State) (p : Port) : s.takeLineDown p =
    ((s.detached p).closeAtLine p .linedown).post
      (.detach p (s.record p).state (s.serialOf p) (s.runIdOr0 p)
        (((s.detached p).closeAtLine p .linedown).fundsOf p).available
        (((s.detached p).closeAtLine p .linedown).fundsOf p).reserved) := by
  have hserial : ((s.detached p).closeAtLine p .linedown).serialOf p = s.serialOf p := by
    rw [closeAtLine_serialOf]
    change (s.detectBreak p).ret.serials.get p = s.ret.serials.get p
    rw [detectBreak_ret]
  rw [← hserial]
  rfl

end

/-- Settles O53: line down on an attached Port, line up on an ABSENT one, and both in LOOPBACK. -/
theorem lineDownAndLineUp : Obligations.LineDownAndLineUp := by
  refine ⟨?down, ?up, ?loopDown, ?loopUp⟩
  case down =>
    intro s p hrun ha hup
    have hexec : exec (.lineDown p) s = .next ((s.takeLineDown p).setMarking p false) := by
      change s.during (lineDownEvent p) = _
      rw [during_running hrun, lineDownEvent, if_neg (by simp [hup]), if_neg (not_loopback_of_attached ha),
        if_pos ha]
    rw [takeLineDown_eq] at hexec
    have hmlu : ((s.detached p).closeAtLine p .linedown).mlu p =
        { ((s.detectBreak p).mlu p).discard with lineUp := false, drivingBreak := false } := by
      rw [closeAtLine_mlu]
      simp [detached]
    have hrecord : ((s.detached p).closeAtLine p .linedown).record p =
        { (s.detectBreak p).record p with lineGood := false, state := .absent, profile := none } := by
      rw [closeAtLine_record]
      simp [detached]
    refine ⟨_, hexec, ?_, ?_, ?_, ?_, ?_, ?_, ?_⟩
    · rw [setMarking_mlu, post_mlu, hmlu, detectBreak_mlu]
      exact ⟨rfl, rfl, rfl, rfl, rfl, rfl, rfl, rfl⟩
    · rw [setMarking_mlu, post_mlu, hmlu]
    · rw [setMarking_record, post_record, hrecord]
    · rw [setMarking_record, post_record, hrecord]
    · rw [setMarking_record, post_record, hrecord]
    · exact (closedAtLine_closeAtLine (s.detached p) p .linedown).congr (by simp [detached])
        (post_ret _ _)
    · rw [setMarking_fundsOf, post_fundsOf]
      exact post_getLast _ _
  case up =>
    intro s p hrun hstate hup
    change s.during (lineUpEvent p) = _
    rw [during_running hrun, lineUpEvent, if_neg (by simp [hup]), if_neg (by simp [hstate]), if_pos hstate]
  case loopDown =>
    intro s p hrun hstate hup
    change s.during (lineDownEvent p) = _
    rw [during_running hrun, lineDownEvent, if_neg (by simp [hup]), if_pos hstate]
    rfl
  case loopUp =>
    intro s p hrun hstate hup
    change s.during (lineUpEvent p) = _
    rw [during_running hrun, lineUpEvent, if_neg (by simp [hup]), if_pos hstate]

/-- Settles O52: METERRESET by the state of its Port; the meter reset of a break; the end of the break
driven; and a break detected, with a frame collected or with none. -/
theorem meterResetTaken : Obligations.MeterResetTaken := by
  refine ⟨?request, ?reset, ?breakEnd, ?collect, ?quiet⟩
  case request =>
    intro s fp p hs hp
    rw [exec_request_outcome (v := .meterreset) rfl hs rfl, perform, meterresetRequest,
      outcome_number s _ hp, outcome_named, outcome_refuseIf]
    refine ⟨fun h => if_pos h, fun h => ?_, fun h => ?_⟩
    · rw [if_neg (by simp [h]), if_neg (by simp [h, PortState.attached])]
      rfl
    · rw [if_neg (not_loopback_of_attached h), if_pos h]
      refine ⟨_, rfl, ?_, by simp⟩
      exact (resetAtLine_takeMeterReset s p .command).congr (by simp; rfl) (by simp) rfl rfl
  case reset =>
    intro s p hrun ha
    have hexec : exec (.meterReset p) s = .next ((s.takeMeterReset p .lineBreak).setMarking p true) := by
      change s.during (meterResetEvent p) = _
      rw [during_running hrun, meterResetEvent, if_pos ha]
    refine ⟨_, hexec, (resetAtLine_takeMeterReset s p .lineBreak).congr (by simp; rfl) (by simp) rfl rfl, ?_⟩
    rw [setMarking_mlu, takeMeterReset_mlu, detectBreak_mlu]
    rfl
  case breakEnd =>
    intro s p hrun hdriving
    change s.during (breakEnds p) = _
    rw [during_running hrun, breakEnds, if_pos hdriving]
    simp [Mlu.beginNext]
  case collect =>
    intro s p body atSpace hrun ha hrx
    change s.during (breakEvent p) = _
    rw [during_running hrun, breakEvent, if_pos ha, detectBreak_of_collect hrx]
  case quiet =>
    intro s p hrun ha hrx
    change s.during (breakEvent p) = _
    rw [during_running hrun, breakEvent, if_pos ha, detectBreak_of_not_collect hrx]

end Sys2Proof.Machine

/-! SUPPORT. Records of a meter taken at once (R137), the reports DONE and STOP (R69 to R72, R76), and the Run
timers (R78, R79). -/

namespace Sys2Proof.Machine

open State

/-! ### The Run timers -/

/-- Settles O42: the expiry of the silence timer and that of the wait timer. -/
theorem runTimersCloseRuns : Obligations.RunTimersCloseRuns := by
  constructor
  · intro s p r hrun hr hw
    change s.during (silenceExpired p) = _
    rw [during_running hrun, silenceExpired, hr]
    exact congrArg Host.Outcome.next (if_neg hw)
  · intro s p r hrun hr hw
    change s.during (waitExpired p) = _
    rw [during_running hrun, waitExpired, hr]
    exact congrArg Host.Outcome.next (if_pos hw)

section

variable {s : State} {p : Port}

/-! ### The routing of a record -/

theorem runVerb_ne : runVerb ≠ announceVerb := by decide

theorem doneVerb_ne : doneVerb ≠ announceVerb ∧ doneVerb ≠ runVerb := by decide

theorem stopVerb_ne : stopVerb ≠ announceVerb ∧ stopVerb ≠ runVerb ∧ stopVerb ≠ doneVerb := by decide

/-- A RUN goes to its block, but on a REFUSED Port (R105). -/
theorem route_run (fs : List Text) : route p ⟨runVerb, fs⟩ s =
    if (s.record p).state = .refused then (s, .badreq runVerb .notready 0) else takeRun p fs s := by
  rw [route, if_neg (by exact runVerb_ne), if_pos rfl]

/-- A DONE goes to its block, but on a REFUSED Port (R105). -/
theorem route_done (fs : List Text) : route p ⟨doneVerb, fs⟩ s =
    if (s.record p).state = .refused then (s, .badreq doneVerb .notready 0) else takeDone p fs s := by
  rw [route, if_neg (by exact doneVerb_ne.1), if_neg (by exact doneVerb_ne.2), if_pos rfl]

/-- A STOP goes to its block, but on a REFUSED Port (R105). -/
theorem route_stop (fs : List Text) : route p ⟨stopVerb, fs⟩ s =
    if (s.record p).state = .refused then (s, .badreq stopVerb .notready 0) else takeStop p fs s := by
  obtain ⟨hannounce, hrun, hdone⟩ := stopVerb_ne
  rw [route, if_neg (by exact hannounce), if_neg (by exact hrun), if_neg (by exact hdone), if_pos rfl]

theorem route_announce (fs : List Text) : route p ⟨announceVerb, fs⟩ s = takeAnnounce p fs s := if_pos rfl

/-- A record with another verb is answered UNKNOWN (R105). -/
theorem route_unknown {f : Frame} (h : f.verb ∉ meterVerbs) :
    route p f s = (s, .badreq (f.verb.take Config.echoMax) .unknown 0) := by
  simp only [meterVerbs, List.mem_cons, List.not_mem_nil, or_false, not_or] at h
  obtain ⟨hannounce, hrun, hdone, hstop⟩ := h
  rw [route, if_neg (by exact hannounce), if_neg (by exact hrun), if_neg (by exact hdone),
    if_neg (by exact hstop)]

/-- The next state that a record's outcome and answer leave, the answer composed (R141). -/
def State.answered (p : Port) (x : State × MeterFrame) : Host.Outcome State Fault Refusal :=
  .next (x.1.compose p x.2)

theorem exec_run (h : s.MeterFree p) (hstate : (s.record p).state ≠ .refused) (fs : List Text) :
    exec (.run p fs) s = answered p (takeRun p fs s) := by
  refine (during_frameArrives_free h _).trans ?_
  rw [route_run, if_neg hstate]
  rfl

theorem exec_done (h : s.MeterFree p) (hstate : (s.record p).state ≠ .refused) (fs : List Text) :
    exec (.done p fs) s = answered p (takeDone p fs s) := by
  refine (during_frameArrives_free h _).trans ?_
  rw [route_done, if_neg hstate]
  rfl

theorem exec_stop (h : s.MeterFree p) (hstate : (s.record p).state ≠ .refused) (fs : List Text) :
    exec (.stop p fs) s = answered p (takeStop p fs s) := by
  refine (during_frameArrives_free h _).trans ?_
  rw [route_stop, if_neg hstate]
  rfl

theorem exec_announce (h : s.MeterFree p) (fs : List Text) :
    exec (.announce p fs) s = answered p (takeAnnounce p fs s) := by
  rw [← route_announce]
  exact during_frameArrives_free h _

/-! ### The fields of a report -/

/-- The fields of a report that are readable (R60). -/
theorem reportFields_of_readable {fi fp fs : Text} {id printed : Nat} {spoiled? : Option Nat}
    (hi : readNumber 4 fi = some id) (hp : readNumber 4 fp = some printed)
    (hs : readOptional 4 fs = some spoiled?) :
    reportFields [fi, fp, fs] = .ok (id, printed, spoiled?.getD 0) := by
  rw [reportFields, refuseIf_of_not _ _ (by simp), ok_bind, (number_eq_ok [fi, fp, fs] 1 4 id).2 hi, ok_bind,
    (number_eq_ok [fi, fp, fs] 2 4 printed).2 hp, ok_bind, optionalNumber_of_readOptional (by exact hs),
    ok_bind, pure_eq_ok]

/-- A report of two fields is read as one whose third is empty (R60). -/
theorem reportFields_pair (fi fp : Text) : reportFields [fi, fp] = reportFields [fi, fp, []] := by
  rw [reportFields, reportFields, refuseIf_of_not _ _ (by simp), refuseIf_of_not _ _ (by simp)]
  rfl

/-- A report with another number of fields is refused FIELDS (R60). -/
theorem reportFields_of_length {fs : List Text} (h2 : fs.length ≠ 2) (h3 : fs.length ≠ 3) :
    reportFields fs = .error ⟨.fields, 0, none⟩ := by
  rw [reportFields, refuseIf_of _ _ ⟨h2, h3⟩]
  rfl

/-! ### The counts of a report -/

variable {r : Run}

theorem setRun_latchIf (b : Bool) (c : Condition) (x : Option Run) :
    (s.latchIf b p c).setRun p x = (s.setRun p x).latchIf b p c := by
  cases b <;> rfl

theorem setFunds_latchIf (b : Bool) (c : Condition) (f : PortFunds) :
    (s.latchIf b p c).setFunds p f = (s.setFunds p f).latchIf b p c := by
  cases b <;> rfl

theorem setRun_setFunds (f : PortFunds) (x : Option Run) :
    (s.setFunds p f).setRun p x = (s.setRun p x).setFunds p f := rfl

/-- A clamp lowers a figure of a report (R70). -/
theorem mismatched_iff {printed spoiled : Nat} : r.mismatched printed spoiled = true ↔
    r.granted - r.printed < printed ∨ min printed (r.granted - r.printed) < spoiled := by
  rw [Run.mismatched, Bool.or_eq_true, decide_eq_true_iff, decide_eq_true_iff]
  rfl

/-- COUNT-MISMATCH is latched where a clamp lowers a figure (R70). -/
theorem latchIf_mismatched (s : State) (p : Port) (r : Run) (printed spoiled : Nat) :
    s.latchIf (r.mismatched printed spoiled) p .countMismatch =
      if r.granted - r.printed < printed ∨ min printed (r.granted - r.printed) < spoiled then
        s.latch p .countMismatch
      else s := if_congr mismatched_iff rfl rfl

/-- The counts taken and the silence timer restarted, as one change of the Run and the funds with the
condition latched (R68, R70). -/
theorem restartSilence_countReport (s : State) (p : Port) (r : Run) (printed spoiled : Nat) :
    (s.countReport p r printed spoiled).restartSilence p =
      ((s.setRun p (some { r.counted printed spoiled with
        silenceDeadline := some (s.fundsOf p).silenceLimit })).setFunds p { s.fundsOf p with
          spoilPieces := (s.fundsOf p).spoilPieces + min spoiled (min printed r.outstanding)
          spoilValue := (s.fundsOf p).spoilValue +
            min spoiled (min printed r.outstanding) * r.charge }).latchIf
        (r.mismatched printed spoiled) p .countMismatch := by
  have hrun : (s.countReport p r printed spoiled).runOf p = some (r.counted printed spoiled) := by
    simp [State.countReport]
  have hlimit : ((s.countReport p r printed spoiled).fundsOf p).silenceLimit =
      (s.fundsOf p).silenceLimit := by
    simp [State.countReport]
  rw [restartSilence, hrun]
  dsimp only
  rw [hlimit, State.countReport, setRun_latchIf]
  refine congrArg (latchIf _ p .countMismatch) ?_
  exact congrArg (setFunds p _) (setRun_setRun s p _ _)

/-- A DONE whose counts are taken (R69). -/
theorem takeDone_of_run {fs : List Text} {printed spoiled : Nat}
    (hf : reportFields fs = .ok (r.id, printed, spoiled)) (hr : s.runOf p = some r)
    (hw : r.state ≠ .waiting) :
    takeDone p fs s = ((s.countReport p r printed spoiled).restartSilence p).answerDone p
      { r.counted printed spoiled with silenceDeadline := some (s.fundsOf p).silenceLimit } := by
  rw [takeDone, hf]
  dsimp only
  rw [hr]
  exact if_neg (by simp [hw])

/-- The answers to a DONE, with the closures they make (R69, R76). -/
theorem answered_answerDone (t : State) (p : Port) (r : Run) : answered p (t.answerDone p r) = .next (
    if r.state = .active ∧ 0 < r.outstanding then t.compose p (.ack r.id r.outstanding)
    else if r.state = .active ∧ r.granted < r.pieces then
      t.compose p (.grant r.id (min r.block (r.pieces - r.granted)))
    else if r.state = .active then
      (t.closeSilently p r .complete).compose p (runendFrame r .complete)
    else if r.level = 1 then
      (t.closeSilently p r.allPrinted .cancelled).compose p (runendFrame r.allPrinted .cancelled)
    else if 0 < r.outstanding then t.compose p (.ack r.id r.outstanding)
    else (t.closeSilently p r .cancelled).compose p (runendFrame r .cancelled)) := by
  rw [answerDone]
  by_cases hactive : r.state = .active
  · simp only [hactive, true_and, if_true, answered]
    split_ifs <;> rfl
  · simp only [hactive, false_and, if_false, answered]
    split_ifs <;> rfl

/-- A DONE of no Run that is ACTIVE or CANCELLING with its id (R69). -/
theorem takeDone_norun {fs : List Text} {id printed spoiled : Nat}
    (hf : reportFields fs = .ok (id, printed, spoiled))
    (hr : ∀ r, s.runOf p = some r → r.id ≠ id ∨ r.state = .waiting) :
    takeDone p fs s = (s, .norun id) := by
  rw [takeDone, hf]
  dsimp only
  cases hrun : s.runOf p with
  | none => rfl
  | some r => exact if_pos (hr r hrun)

theorem takeDone_of_error {fs : List Text} {e : Refused} (hf : reportFields fs = .error e) :
    takeDone p fs s = (s, .badreq doneVerb e.word e.pos) := by
  rw [takeDone, hf]

/-- A record is taken by its fields alone: reports whose fields read alike have one outcome. -/
theorem takeDone_congr {fs fs' : List Text} (h : reportFields fs = reportFields fs') (s : State) :
    takeDone p fs s = takeDone p fs' s := by
  rw [takeDone, takeDone, h]

theorem takeStop_congr {fs fs' : List Text} (h : reportFields fs = reportFields fs') (s : State) :
    takeStop p fs s = takeStop p fs' s := by
  rw [takeStop, takeStop, h]

end

/-- Settles O40: the NORUN, the two fields read as three, the FIELDS refusal, and then each answer to the
counts taken. -/
theorem doneCountsAndAnswers : Obligations.DoneCountsAndAnswers := by
  refine ⟨?norun, ?pair, ?fields, ?taken⟩
  case norun =>
    intro s p fi fp fs id printed spoiled? h hstate hi hp hs hr
    rw [exec_done h hstate, takeDone_norun (reportFields_of_readable hi hp hs) hr]
    rfl
  case pair =>
    intro s p fi fp h
    change s.during (frameArrives p ⟨doneVerb, _⟩) = s.during (frameArrives p ⟨doneVerb, _⟩)
    rw [during_frameArrives_free h, during_frameArrives_free h, route_done, route_done,
      takeDone_congr (reportFields_pair fi fp)]
  case fields =>
    intro s p fs h hstate h2 h3
    rw [exec_done h hstate, takeDone_of_error (reportFields_of_length h2 h3)]
    rfl
  case taken =>
    intro s p fi fp fs printed spoiled? r h hstate hr hw hi hp hs
    rw [exec_done h hstate, takeDone_of_run (reportFields_of_readable hi hp hs) hr hw,
      restartSilence_countReport, latchIf_mismatched, answered_answerDone]
    have hleft : Run.outstanding { r.counted printed (spoiled?.getD 0) with
        silenceDeadline := some (s.fundsOf p).silenceLimit } =
          r.granted - r.printed - min printed (r.granted - r.printed) :=
      Run.counted_outstanding (r := r) printed (spoiled?.getD 0)
    rw [hleft]
    rfl

/-! ### STOP -/

section

variable {s : State} {p : Port} {r : Run} {fs : List Text} {id printed spoiled : Nat}

/-- A STOP of no Run with its id (R71). -/
theorem takeStop_norun (hf : reportFields fs = .ok (id, printed, spoiled))
    (hr : ∀ r, s.runOf p = some r → r.id ≠ id) : takeStop p fs s = (s, .norun id) := by
  rw [takeStop, hf]
  dsimp only
  cases hrun : s.runOf p with
  | none => rfl
  | some r => exact if_pos (hr r hrun)

theorem takeStop_of_error {e : Refused} (hf : reportFields fs = .error e) :
    takeStop p fs s = (s, .badreq stopVerb e.word e.pos) := by
  rw [takeStop, hf]

/-- A STOP of a WAITING Run (R72). -/
theorem takeStop_of_waiting (hf : reportFields fs = .ok (r.id, printed, spoiled)) (hr : s.runOf p = some r)
    (hw : r.state = .waiting) : takeStop p fs s =
      (((s.latchIf (0 < printed || 0 < spoiled) p .countMismatch).closeSilently p r .stopped).pass,
        runendFrame r .stopped) := by
  rw [takeStop, hf]
  dsimp only
  rw [hr]
  exact (if_neg (not_not_intro rfl)).trans (if_pos hw)

/-- The counts of a stopped Run, its final Granted its final Printed (R71). -/
def Run.stoppedAt (r : Run) (printed spoiled : Nat) : Run :=
  { r.counted printed spoiled with granted := (r.counted printed spoiled).printed }

/-- The reason a stopped Run closes with (R71). -/
def Run.stopReason (r : Run) : RunReason := if r.cancelRequested then .cancelled else .stopped

/-- A STOP of an ACTIVE or CANCELLING Run (R71). -/
theorem takeStop_of_held (hf : reportFields fs = .ok (r.id, printed, spoiled)) (hr : s.runOf p = some r)
    (hw : r.state ≠ .waiting) : takeStop p fs s =
      (((s.countReport p r printed spoiled).returnUnprinted p (r.counted printed spoiled)).closeSilently p
        (r.stoppedAt printed spoiled) r.stopReason,
        runendFrame (r.stoppedAt printed spoiled) r.stopReason) := by
  rw [takeStop, hf]
  dsimp only
  rw [hr]
  exact (if_neg (not_not_intro rfl)).trans (if_neg hw)

/-- The closure of a stopped Run, as one change of the funds and the Run with the condition latched, then
of the queue, and the RUNEND Notice (R70, R71, R59). -/
theorem closeSilently_stopped (s : State) (p : Port) (r final : Run) (printed spoiled : Nat)
    (reason : RunReason) :
    ((s.countReport p r printed spoiled).returnUnprinted p (r.counted printed spoiled)).closeSilently p final
        reason =
      ((((s.setRun p none).setFunds p { s.fundsOf p with
        available := (s.fundsOf p).available +
          (r.outstanding - min printed r.outstanding) * r.charge + (s.fundsOf p).reserved
        reserved := 0
        usedValue := (s.fundsOf p).usedValue - (r.outstanding - min printed r.outstanding) * r.charge
        usedPieces := (s.fundsOf p).usedPieces - (r.outstanding - min printed r.outstanding)
        spoilPieces := (s.fundsOf p).spoilPieces + min spoiled (min printed r.outstanding)
        spoilValue := (s.fundsOf p).spoilValue +
          min spoiled (min printed r.outstanding) * r.charge }).latchIf
        (r.mismatched printed spoiled) p .countMismatch).setQueue (s.ret.queue.filter (· ≠ p))).post
          (runendNotice p final reason) := by
  rw [State.closeSilently, removeRun, returnReserved, returnUnprinted, State.countReport,
    Run.counted_outstanding, setFunds_latchIf, setFunds_latchIf, setRun_latchIf]
  simp only [latchIf_fundsOf, setFunds_fundsOf, if_true, setFunds_setFunds, setRun_fundsOf, latchIf_ret,
    setRun_setFunds, setRun_setRun]
  rfl

end

/-- Settles O41: the NORUN, the two fields read as three, the FIELDS refusal, a WAITING Run, and then an
ACTIVE or CANCELLING one. -/
theorem stopReturnsUnprintedPieces : Obligations.StopReturnsUnprintedPieces := by
  refine ⟨?norun, ?pair, ?fields, ?waiting, ?held⟩
  case norun =>
    intro s p fi fp fs id printed spoiled? h hstate hi hp hs hr
    rw [exec_stop h hstate, takeStop_norun (reportFields_of_readable hi hp hs) hr]
    rfl
  case pair =>
    intro s p fi fp h
    change s.during (frameArrives p ⟨stopVerb, _⟩) = s.during (frameArrives p ⟨stopVerb, _⟩)
    rw [during_frameArrives_free h, during_frameArrives_free h, route_stop, route_stop,
      takeStop_congr (reportFields_pair fi fp)]
  case fields =>
    intro s p fs h hstate h2 h3
    rw [exec_stop h hstate, takeStop_of_error (reportFields_of_length h2 h3)]
    rfl
  case waiting =>
    intro s p fi fp fs printed spoiled? r h hstate hr hw hi hp hs
    rw [exec_stop h hstate, takeStop_of_waiting (reportFields_of_readable hi hp hs) hr hw]
    have hlatch : s.latchIf (0 < printed || 0 < spoiled?.getD 0) p .countMismatch =
        if 0 < printed ∨ 0 < spoiled?.getD 0 then s.latch p .countMismatch else s :=
      if_congr (by rw [Bool.or_eq_true, decide_eq_true_iff, decide_eq_true_iff]) rfl rfl
    rw [hlatch]
    rfl
  case held =>
    intro s p fi fp fs printed spoiled? r h hstate hr hw hi hp hs
    rw [exec_stop h hstate, takeStop_of_held (reportFields_of_readable hi hp hs) hr hw,
      closeSilently_stopped, latchIf_mismatched]
    rfl

/-! ### What reaches a Meter Line Unit -/

/-- A frame whose close marker comes in its place with agreeing check digits ends COMPLETE (R128). -/
theorem complete_collect {body : Text} (hawaits : awaitsClose body = true)
    (hagrees : checkAgrees body = true) :
    Receiver.complete (.collect body false) = (.ready, some (.complete (frameOf (bodyContent body)))) := by
  simp only [Receiver.complete, hawaits, hagrees, Bool.and_self, if_true, closeFrame, terminate,
    Termination.next]

section

variable {s : State} {p : Port} {f : Frame}

/-- A command that is a record of a meter brings its frame to the Meter Line Unit (R137). -/
theorem exec_of_meterRecord {i : Instr} (hi : meterRecord i = some (p, f)) :
    exec i s = s.during (frameArrives p f) := by
  cases i <;> cases hi <;> rfl

/-- A frame that joins the Input Queue takes no slot. -/
theorem join_slots (m : Mlu) (f : Frame) : (m.join f).slots = m.slots := by
  rw [Mlu.join]
  split_ifs <;> rfl

/-- With both slots full a record joins the Input Queue (R137). -/
theorem frameArrives_full (ha : (s.record p).state.attached = true)
    (hslot : (s.mlu p).slots.hasFree = false) (hroom : (s.mlu p).inputs.length < 4) :
    s.frameArrives p f = s.setMlu p ((s.mlu p).join f) := by
  have hslots : ((s.setMlu p ((s.mlu p).join f)).mlu p).slots.hasFree = false := by
    rw [setMlu_mlu, if_pos rfl, ← hslot, join_slots]
  rw [frameArrives, if_pos ha, if_pos (by exact hroom)]
  exact if_neg (by rw [hslots]; exact Bool.false_ne_true)

/-- The third frame queued, with held-by-us clear, calls for HOLD (R138). -/
theorem join_of_two {m : Mlu} (h : m.inputs.length = 2) (hheld : m.heldByUs = false) :
    m.join f = { m with
      inputs := m.inputs ++ [f]
      heldByUs := true
      flowOut := some .hold
      flowWaiting := m.sending || m.drivingBreak } := by
  rw [Mlu.join, if_pos (by simp [h, hheld])]
  rfl

/-- Another frame queued only joins the tail (R137). -/
theorem join_of_not_two {m : Mlu} (h : m.inputs.length ≠ 2 ∨ m.heldByUs = true) :
    m.join f = { m with inputs := m.inputs ++ [f] } := by
  refine if_neg ?_
  obtain hlength | hheld := h
  · simp [hlength]
  · simp [hheld]

end

/-- Settles O56: a frame COMPLETE, a frame faulty, an unknown verb, the verbs of a Run on a REFUSED Port, and
a record with both slots full. -/
theorem meterFramesReceived : Obligations.MeterFramesReceived := by
  refine ⟨?complete, ?faulty, ?unknown, ?refused, ?full⟩
  case complete =>
    intro s p body h hrx hawaits hagrees t f
    have hfree : t.MeterFree p :=
      ⟨h.running, h.attached, by simp [t, h.inputs], by simp [t, h.owed], by simp [t, h.slot]⟩
    have hreceived : s.meterReceives p Receiver.complete = t.frameArrives p f := by
      unfold meterReceives
      rw [hears, h.attached, hrx, complete_collect hawaits hagrees]
      exact if_neg (not_loopback_of_attached hfree.attached)
    change s.during (meterReceives p Receiver.complete) = _
    rw [during_running h.running, hreceived, frameArrives_free hfree]
  case faulty =>
    intro s p body atSpace reason hrun ha hrx
    change s.during (meterReceives p (Receiver.fault reason)) = _
    rw [during_running hrun, meterReceives_fault ha hrx]
  case unknown =>
    intro s p verb fields h hverb
    change s.during (frameArrives p ⟨verb, fields⟩) = _
    rw [during_frameArrives_free h, route_unknown (by exact hverb)]
    rfl
  case refused =>
    intro s p fields h hstate
    refine ⟨?_, ?_, ?_⟩
    · change s.during (frameArrives p ⟨runVerb, fields⟩) = _
      rw [during_frameArrives_free h, route_run, if_pos hstate]
      rfl
    · change s.during (frameArrives p ⟨doneVerb, fields⟩) = _
      rw [during_frameArrives_free h, route_done, if_pos hstate]
      rfl
    · change s.during (frameArrives p ⟨stopVerb, fields⟩) = _
      rw [during_frameArrives_free h, route_stop, if_pos hstate]
      rfl
  case full =>
    intro i p f s hi hrun ha hslot
    rw [exec_of_meterRecord hi, during_running hrun]
    refine ⟨fun hroom hjoin => ?_, fun htwo hheld => ?_, fun hfour => ?_⟩
    · rw [frameArrives_full ha hslot hroom, join_of_not_two hjoin]
    · rw [frameArrives_full ha hslot (by omega), join_of_two htwo hheld]
    · rw [frameArrives, if_pos ha, if_neg (by exact hfour.not_gt)]

end Sys2Proof.Machine

/-! SUPPORT. ANNOUNCE: its fields, the serial recorded and the Profile resolved (R108 to R112). -/

namespace Sys2Proof.Machine

open State

/-! ### ANNOUNCE -/

/-- Eight digits are a serial (R108). -/
theorem isSerial_of_digits {serial : Text} (hlength : serial.length = 8)
    (hdigits : ∀ c ∈ serial, (digitValue c).isSome = true) : isSerial serial = true := by
  simpa [isSerial, hlength] using hdigits

/-- The fields of an ANNOUNCE that are well formed (R108). -/
theorem announceFields_of_readable {fv serial fc fl fm fb : Text} {level most block : Nat}
    {classes : List Nat} {letters : List Letter} (hv : readNumber 1 fv = some level) (hlevel : 1 ≤ level)
    (hserial : isSerial serial = true) (hc : readClasses fc = some classes)
    (hl : readLetters fl = some letters) (hm : readNumber 4 fm = some most)
    (hb : readNumber 2 fb = some block) :
    announceFields [fv, serial, fc, fl, fm, fb] =
      .ok ⟨level, serial, classes, letters, max 1 most, max 1 block⟩ := by
  rw [announceFields, refuseIf_of_not _ _ (by simp), ok_bind, (number_eq_ok _ 1 1 level).2 (by exact hv),
    ok_bind, refuseIf_of_not _ _ (by omega), ok_bind, refuseIf_of_not _ _ (by simp [fieldAt, hserial]), ok_bind,
    (orRefuse_eq_ok _ _ _ classes).2 (by exact hc), ok_bind, (orRefuse_eq_ok _ _ _ letters).2 (by exact hl),
    ok_bind, (number_eq_ok _ 5 4 most).2 (by exact hm), ok_bind, (number_eq_ok _ 6 2 block).2 (by exact hb),
    ok_bind]
  rfl

/-- A serial is changed at a funded Port when it is another and funds stand there (R110). -/
theorem serialChanges_iff {s : State} {p : Port} {serial : Text} : s.serialChanges p serial = true ↔
    s.ret.serials.get p ≠ some serial ∧ 0 < (s.fundsOf p).available + (s.fundsOf p).reserved := by
  rw [serialChanges, Bool.and_eq_true, decide_eq_true_iff, decide_eq_true_iff]
  rfl

/-- The serial recorded, after METER-CHANGED where R110 calls for it. -/
theorem recordSerial_eq (s : State) (p : Port) (serial : Text) : s.recordSerial p serial =
    let changed : State :=
      if s.ret.serials.get p ≠ some serial ∧ 0 < (s.fundsOf p).available + (s.fundsOf p).reserved then
        (s.latch p .meterChanged).post (.meterchanged p (s.ret.serials.get p) serial
          (s.fundsOf p).available (s.fundsOf p).reserved)
      else s
    { changed with ret := { changed.ret with serials := changed.ret.serials.set p (some serial) } } := by
  rw [recordSerial]
  exact congrArg (fun t : State =>
    ({ t with ret := { t.ret with serials := t.ret.serials.set p (some serial) } } : State))
    (if_congr serialChanges_iff rfl rfl)

/-- Settles O51: the three refusals of R108, and then the serial, the Profile and the answer of R109 to
R112. -/
theorem announcementResolved : Obligations.AnnouncementResolved := by
  intro s p fv serial fc fl fm fb level most block classes letters h hv hlevel hlength hdigits hc hl hm hb
  have hfields := announceFields_of_readable hv hlevel (isSerial_of_digits hlength hdigits) hc hl hm hb
  rw [exec_announce h, takeAnnounce, hfields]
  dsimp only
  rw [apply_ite (answered p), apply_ite (answered p), apply_ite (answered p)]
  refine if_congr Iff.rfl rfl (if_congr Iff.rfl rfl (if_congr Option.isSome_iff_ne_none rfl ?_))
  rw [attach, apply_ite (answered p), recordSerial_eq]
  rfl

end Sys2Proof.Machine

/-! SUPPORT. The admission of a Run: the checks of a RUN, the Basic Profile, the reservation and the
composition of a frame (R22, R23, R60 to R63, R67, R68, R113). -/

namespace Sys2Proof.Machine

open State

/-! ### The fields of a RUN -/

/-- A check that refuses, followed by what comes after it. -/
theorem refuseIf_bind {α : Type} (b : Prop) [Decidable b] (w : RefusalWord) (pos : Nat)
    (k : Unit → Checked α) : (refuseIf b w pos >>= k) = if b then refuse w pos else k () := by
  by_cases h : b
  · rw [refuseIf_of w pos h, if_pos h]
    rfl
  · rw [refuseIf_of_not w pos h, if_neg h, ok_bind]

section

variable {fs : List Text} {fc fw fu fn : Text} {c w n : Nat}

/-- A RUN with another number of fields is refused FIELDS (R60). -/
theorem runFields_of_length (h : fs.length ≠ 4) : runFields fs = .error ⟨.fields, 0, none⟩ := by
  rw [runFields, refuseIf_of _ _ h]
  rfl

/-- The number fields of a RUN are read in order (R60). -/
theorem runFields_eq (fc fw fu fn : Text) : runFields [fc, fw, fu, fn] = (do
    let c ← orRefuse (readNumber 1 fc) .format 1
    let w ← orRefuse (readNumber 5 fw) .format 2
    let n ← orRefuse (readNumber 5 fn) .format 4
    return (c, w, n)) := by
  rw [runFields, refuseIf_of_not _ _ (by simp), ok_bind]
  rfl

theorem runFields_of_readable (hc : readNumber 1 fc = some c) (hw : readNumber 5 fw = some w)
    (hn : readNumber 5 fn = some n) : runFields [fc, fw, fu, fn] = .ok (c, w, n) := by
  rw [runFields_eq, hc, hw, hn]
  rfl

end

/-! ### The refusals of a RUN -/

section

variable {s : State} {p : Port} {fs : List Text} {c w n : Nat} {q : Profile}

theorem takeRun_of_error {e : Refused} (h : runFields fs = .error e) :
    takeRun p fs s = (s, .badreq runVerb e.word e.pos) := by
  rw [takeRun, h]

/-- The state checks of a RUN with readable fields, and the Profile it is judged by (R61). -/
theorem takeRun_of_fields (h : runFields fs = .ok (c, w, n)) : takeRun p fs s =
    if s.lockMark then (s, .badreq runVerb .locked 0)
    else if s.suspendedOf p then (s, .badreq runVerb .suspended 0)
    else match ((s.giveBasic p).record p).profile with
      | none => (s.giveBasic p, .badreq runVerb .noclass 1)
      | some profile => (s.giveBasic p).admitRun p profile c w (fieldAt fs 3) n := by
  rw [takeRun, h] <;> rfl

/-- A RUN on a Port past the checks of the device state and the suspension (R61). -/
theorem takeRun_of_open (h : runFields fs = .ok (c, w, n)) (hlock : s.lockMark = false)
    (hsuspended : s.suspendedOf p = false) : takeRun p fs s =
    match ((s.giveBasic p).record p).profile with
    | none => (s.giveBasic p, .badreq runVerb .noclass 1)
    | some profile => (s.giveBasic p).admitRun p profile c w (fieldAt fs 3) n := by
  rw [takeRun_of_fields h, if_neg (by simp [hlock]), if_neg (by simp [hsuspended])]

/-- A READY Port keeps its Profile (R61). -/
theorem giveBasic_of_ready (h : (s.record p).state = .ready) : s.giveBasic p = s :=
  if_neg (by simp [h])

/-- A RUN on a READY Port is judged by its Profile (R61). -/
theorem takeRun_of_ready (h : runFields fs = .ok (c, w, n)) (hlock : s.lockMark = false)
    (hsuspended : s.suspendedOf p = false) (hready : (s.record p).state = .ready)
    (hprofile : (s.record p).profile = some q) :
    takeRun p fs s = s.admitRun p q c w (fieldAt fs 3) n := by
  rw [takeRun_of_open h hlock hsuspended, giveBasic_of_ready hready, hprofile]

/-- Without class 1 in the Offer an UNANNOUNCED Port goes to REFUSED (R113). -/
theorem giveBasic_of_not_mem (h : (s.record p).state = .unannounced) (hclass : 1 ∉ s.ret.offer.classes) :
    s.giveBasic p = s.setRecord p { s.record p with state := .refused, profile := none } := by
  have hnone : (basicProfile s.ret.offer).classes = [] := by simpa [basicProfile] using hclass
  rw [giveBasic, if_pos h, if_pos hnone]

/-- With class 1 in the Offer an UNANNOUNCED Port is READY with the Basic Profile (R113). -/
theorem giveBasic_of_mem (h : (s.record p).state = .unannounced) (hclass : 1 ∈ s.ret.offer.classes) :
    s.giveBasic p = s.setRecord p { s.record p with
      state := .ready
      profile := some { level := 1, classes := [1], surcharges := [], maxRun := 1, block := 1,
                        basic := true }
      latched := { (s.record p).latched with unannouncedUse := true } } := by
  have hclasses : (basicProfile s.ret.offer).classes = [1] := by simpa [basicProfile] using hclass
  have hbasic : basicProfile s.ret.offer = ⟨1, [1], [], 1, 1, true⟩ := by
    rw [← hclasses]
    rfl
  rw [giveBasic, if_pos h, if_neg (by simp [hclasses]), hbasic]
  simp [latch, Latches.add]

/-! ### The checks against the Profile -/

/-- The letters of a RUN, each of the Profile, or none (R62, order 8). -/
theorem profileLetters_eq (q : Profile) (fu : Text) : profileLetters q fu =
    match readLetters fu with
    | some letters => if ∀ l ∈ letters, l ∈ q.surcharges then some letters else none
    | none => none := by
  unfold profileLetters
  cases readLetters fu with
  | none => rfl
  | some letters => exact if_congr (by simp [List.all_eq_true]) rfl rfl

/-- The checks of a RUN against the Profile, the Charge Computation and the limits, in order (R62). -/
theorem priceRun_eq (s : State) (p : Port) (q : Profile) (c w : Nat) (fu : Text) (n : Nat) :
    priceRun s p q c w fu n =
      if n < 1 ∨ q.maxRun < n then refuse .size 4
      else if q.classes.contains c = false then refuse .noclass 1
      else match computeCharge s.ret.current c w (profileLetters q fu) n with
        | .error e => refuse (runFault e).1 (runFault e).2
        | .ok r =>
          if (s.fundsOf p).runLimit < r.total then refuse .overlimit 0
          else if 999999999999 < (s.fundsOf p).usedValue + r.total then refuse .full 0
          else .ok r := by
  rw [priceRun, refuseIf_bind]
  refine if_congr Iff.rfl rfl ?_
  rw [refuseIf_bind]
  refine if_congr Iff.rfl rfl ?_
  cases computeCharge s.ret.current c w (profileLetters q fu) n with
  | error e => rfl
  | ok r =>
    dsimp only
    rw [refuseIf_bind, refuseIf_bind]
    rfl

/-- A Run that the checks refuse (R62). -/
theorem admitRun_of_refused {fu : Text} {word_ : RefusalWord} {pos : Nat} (hr : s.runOf p = none)
    (hprice : priceRun s p q c w fu n = refuse word_ pos) :
    s.admitRun p q c w fu n = (s, .badreq runVerb word_ pos) := by
  rw [admitRun, if_neg (by simp [hr]), hprice]
  rfl

/-- A Run that passes the checks (R63). -/
theorem admitRun_of_priced {fu : Text} {r : ChargeResult} (hr : s.runOf p = none)
    (hprice : priceRun s p q c w fu n = .ok r) :
    s.admitRun p q c w fu n =
      if s.canReserve p r.total then s.admitActive p (newRun (nextRunId (s.ret.runIds.get p)) q r n)
      else s.admitWaiting p (newRun (nextRunId (s.ret.runIds.get p)) q r n) := by
  rw [admitRun, if_neg (by simp [hr]), hprice]

/-- A Run can be reserved when Available covers it, or when no Run waits and the pool covers the rest
(R22). -/
theorem canReserve_iff {total : Nat} : s.canReserve p total = true ↔
    total ≤ (s.fundsOf p).available ∨
      (s.ret.queue = [] ∧ total - (s.fundsOf p).available ≤ s.ret.pool) := by
  rw [canReserve, Bool.or_eq_true, Bool.and_eq_true, decide_eq_true_iff, decide_eq_true_iff,
    List.isEmpty_iff]

/-- The Run Id after a Run Id counter, 1 after 9999 (R56). -/
theorem nextRunId_eq (k : Nat) : nextRunId k = if k < 9999 then k + 1 else 1 := by
  rw [nextRunId, ← ite_not]
  exact if_congr Nat.not_le rfl rfl

end

/-! ### Reservation -/

section

variable {s : State} {p : Port}

/-- Available covers the total: nothing is drawn (R22, R23). -/
theorem reserve_of_le {total : Nat} (h : total ≤ (s.fundsOf p).available) :
    s.reserve p total = s.setFunds p { s.fundsOf p with
      available := (s.fundsOf p).available - total, reserved := (s.fundsOf p).reserved + total } := by
  have hdraw : s.reservationDraw p total = 0 := if_pos h
  rw [reserve_eq, reservedFunds, hdraw]
  rfl

/-- Available does not cover the total: what it lacks and the Target are drawn, within the pool and the
Headroom (R22, R23). -/
theorem reserve_of_lt {total : Nat} (h : (s.fundsOf p).available < total) :
    let drawn := min s.ret.pool
      (min (total - (s.fundsOf p).available + (s.fundsOf p).target) (99999999 - s.holding p))
    s.reserve p total = (s.setPool (s.ret.pool - drawn)).setFunds p { s.fundsOf p with
      available := (s.fundsOf p).available + drawn - total
      reserved := (s.fundsOf p).reserved + total } := by
  intro drawn
  have hdraw : s.reservationDraw p total = drawn := if_neg h.not_ge
  rw [reserve_eq, reservedFunds, hdraw]

/-! ### The composition of a frame -/

theorem put_first_isSome {φ : Type} (slots : Slots φ) (f : φ) : (slots.put f).first.isSome = true := by
  cases slots <;> rfl

/-- A frame composed takes its slot, and an idle transmitter begins it (R139, R140, R143). -/
theorem putFrame_eq (s : State) (p : Port) (f : MeterFrame) : s.putFrame p f = s.setMlu p { s.mlu p with
    slots := (s.mlu p).slots.put f
    sending := (s.mlu p).sending || (!(s.mlu p).heldByMeter && !(s.mlu p).drivingBreak) } := by
  rw [putFrame, Mlu.beginNext, put_first_isSome, Bool.true_and]

/-- The silence timer of a Run restarts (R68). -/
theorem restartSilence_of_some {r : Run} (h : s.runOf p = some r) : s.restartSilence p =
    s.setRun p (some { r with silenceDeadline := some (s.fundsOf p).silenceLimit }) := by
  rw [restartSilence, h]

/-- A block is debited and the silence timer restarted, as one change of the Run and the funds (R67,
R68). -/
theorem restartSilence_debit {r : Run} (h : s.runOf p = some r) (b : Nat) :
    (s.debit p b).restartSilence p = (s.setRun p (some { r with
        granted := r.granted + b
        silenceDeadline := some (s.fundsOf p).silenceLimit })).setFunds p { s.fundsOf p with
      reserved := (s.fundsOf p).reserved - b * r.charge
      usedValue := (s.fundsOf p).usedValue + b * r.charge
      usedPieces := (s.fundsOf p).usedPieces + b } := by
  have hdebit : s.debit p b = (s.setRun p (some { r with granted := r.granted + b })).setFunds p
      { s.fundsOf p with
        reserved := (s.fundsOf p).reserved - b * r.charge
        usedValue := (s.fundsOf p).usedValue + b * r.charge
        usedPieces := (s.fundsOf p).usedPieces + b } := by
    rw [debit, h]
  have hrun : (s.debit p b).runOf p = some { r with granted := r.granted + b } := by
    simp [hdebit]
  rw [restartSilence_of_some hrun, hdebit, setFunds_fundsOf, if_pos rfl, setRun_setFunds, setRun_setRun]

end

/-- Settles O39: the checks of the state, of the fields and against the Profile; the reservation; the
composition of a frame; and the admission. -/
theorem runAdmission : Obligations.RunAdmission := by
  refine ⟨?state, ?fields, ?profile, fun _ _ _ => ⟨reserve_of_le, reserve_of_lt⟩, ?compose, ?admitted⟩
  case state =>
    intro s p fc fw fu fn c w n h hstate hc hw hn
    have hf := runFields_of_readable (fu := fu) hc hw hn
    refine ⟨fun hlock => ?_, fun hlock hs => ?_, fun hlock hs q hready hprofile hr => ?_,
      fun hlock hs hstate' hclass => ?_, fun hlock hs hstate' hclass => ?_⟩
    · rw [exec_run h hstate, takeRun_of_fields hf, if_pos hlock]
      rfl
    · rw [exec_run h hstate, takeRun_of_fields hf, if_neg (by simp [hlock]), if_pos hs]
      rfl
    · rw [exec_run h hstate, takeRun_of_ready hf hlock hs hready hprofile, admitRun,
        if_pos (Option.isSome_iff_ne_none.2 hr)]
      rfl
    · rw [exec_run h hstate, takeRun_of_open hf hlock hs, giveBasic_of_not_mem hstate' hclass]
      simp only [setRecord_record, if_true]
      rfl
    · have hbasic := giveBasic_of_mem hstate' hclass
      rw [exec_run h hstate, takeRun_of_open hf hlock hs, hbasic]
      generalize hready : s.setRecord p _ = t
      have hrecord : (t.record p).state = .ready := by simp [← hready]
      have hfree : t.MeterFree p := by
        subst hready
        exact ⟨h.running, by simp [PortState.attached], h.inputs, h.owed, h.slot⟩
      have hlock' : t.lockMark = false := by simpa [← hready] using hlock
      have hs' : t.suspendedOf p = false := by simpa [← hready] using hs
      rw [exec_run hfree (by simp [hrecord]), takeRun_of_open hf hlock' hs', giveBasic_of_ready hrecord]
  case fields =>
    intro s p fs h hstate
    refine ⟨fun hlength => ?_, ?_⟩
    · rw [exec_run h hstate, takeRun_of_error (runFields_of_length hlength)]
      rfl
    · rintro fc fw fu fn rfl
      rw [exec_run h hstate, takeRun, runFields_eq]
      refine ⟨fun hc => ?_, fun hc hw => ?_, fun hc hw hn => ?_⟩
      · rw [hc]
        rfl
      · obtain ⟨c, hc⟩ := Option.ne_none_iff_exists'.1 hc
        rw [hc, hw]
        rfl
      · obtain ⟨c, hc⟩ := Option.ne_none_iff_exists'.1 hc
        obtain ⟨w, hw⟩ := Option.ne_none_iff_exists'.1 hw
        rw [hc, hw, hn]
        rfl
  case profile =>
    intro s p fc fw fu fn c w n q h hready hprofile hlock hs hr hc hw hn refused letters?
    have hrefused : ∀ {word_ pos}, priceRun s p q c w fu n = refuse word_ pos → refused word_ pos := by
      intro word_ pos hprice
      change exec _ _ = _
      rw [exec_run h (by simp [hready]),
        takeRun_of_ready (runFields_of_readable hc hw hn) hlock hs hready hprofile]
      exact congrArg (answered p) (admitRun_of_refused hr hprice)
    have hletters : profileLetters q fu = letters? := profileLetters_eq q fu
    have hprice := priceRun_eq s p q c w fu n
    refine ⟨fun hsize => hrefused ?_, fun h1 hmax hclass => hrefused ?_, fun h1 hmax hclass => ?_⟩
    · rw [hprice, if_pos hsize]
    · rw [hprice, if_neg (by omega), if_pos (by simpa using hclass)]
    · rw [if_neg (by omega), if_neg (by simpa using hclass), hletters] at hprice
      cases hcharge : computeCharge s.ret.current c w letters? n with
      | error e =>
        rw [hcharge] at hprice
        cases e <;> exact hrefused hprice
      | ok r =>
        rw [hcharge] at hprice
        refine ⟨fun hlimit => hrefused ?_, fun hlimit hfull => hrefused ?_⟩
        · exact hprice.trans (if_pos hlimit)
        · exact hprice.trans ((if_neg hlimit.not_gt).trans (if_pos hfull))
  case compose =>
    intro s p f placed hfree
    have hput : s.putFrame p f = placed := putFrame_eq s p f
    refine ⟨fun r b hr hf => ?_, fun r i hr hf => ?_, fun hrunok hgrant hhalt => ?_⟩
    · have hcompose : s.compose p f = ((s.putFrame p f).debit p b).restartSilence p := by
        obtain ⟨i, e, q, rfl⟩ | ⟨i, rfl⟩ := hf <;> rfl
      rw [hcompose, hput]
      exact restartSilence_debit (s := placed) hr b
    · subst hf
      change (s.putFrame p (.halt i)).restartSilence p = _
      rw [hput]
      exact restartSilence_of_some (s := placed) hr
    · rw [← hput]
      cases f with
      | runok i e q b => exact absurd rfl (hrunok i e q b)
      | grant i b => exact absurd rfl (hgrant i b)
      | halt i => exact absurd rfl (hhalt i)
      | _ => rfl
  case admitted =>
    intro s p fc fw fu fn c w n q letters r h hready hprofile hlock hs hr hc hw hn h1 hmax hclass hl
      hletters hcharge hlimit hfull id admitted numbered
    have hprofileLetters : profileLetters q fu = some letters := by
      rw [profileLetters_eq, hl]
      exact if_pos hletters
    have hprice : priceRun s p q c w fu n = .ok r := by
      rw [priceRun_eq, if_neg (by omega), if_neg (by simpa using hclass), hprofileLetters, hcharge]
      exact (if_neg hlimit.not_gt).trans (if_neg hfull.not_gt)
    have hid : nextRunId (s.ret.runIds.get p) = id := nextRunId_eq _
    rw [exec_run h (by simp [hready]),
      takeRun_of_ready (runFields_of_readable hc hw hn) hlock hs hready hprofile]
    change answered p (s.admitRun p q c w fu n) = _
    rw [admitRun_of_priced hr hprice, hid, apply_ite (answered p)]
    exact if_congr canReserve_iff rfl rfl

end Sys2Proof.Machine

/-! SUPPORT. Stopping and starting (R165 to R170), and the transmit pins (R176). -/

namespace Sys2Proof.Machine

open State

section

variable {s : State} {p : Port}

/-! ### The transmit pins -/

/-- Every transmit pin marks right after a start-up (R170, R176). -/
theorem transmitPin_startFrom (s : State) (c : Cause) (pins : Pins) (l : Line) :
    (s.startFrom c pins).transmitPin l = .marking := by
  cases l with
  | host => rfl
  | meter p =>
    have hmlu : (s.startFrom c pins).mlu p = Mlu.atStart (pins.marking.get p) := perPort_get _ p
    have hquiet : ((s.startFrom c pins).mlu p).drivingBreak = false ∧
        ((s.startFrom c pins).mlu p).sending = false := by
      rw [hmlu]
      exact ⟨rfl, rfl⟩
    simp [transmitPin, hquiet]

/-- The transmit pin of a Port that is ABSENT or in LOOPBACK marks (R144, R176). -/
theorem transmitPin_detached (h : (s.record p).state = .absent ∨ (s.record p).state = .loopback) :
    s.transmitPin (.meter p) = .marking := by
  obtain h | h := h <;> simp [transmitPin, h]

/-! ### Start-up -/

/-- A start-up by the lock mark and the check word (R167, R169). -/
theorem powerUp_eq (s : State) (pins : Pins) (failed : Bool) : s.powerUp pins failed =
    if s.lockMark = true then s.startFrom .start pins
    else if failed = false ∧ s.checkWord = some (Config.checkWord s.ret) then s.startFrom .start pins
    else ({ s with lockMark := true, shelved := some s.ret, ret := Retained.locked } : State).startFrom
      .start pins := by
  rw [powerUp]
  by_cases hlock : s.lockMark = true
  · have hbad : s.contentsGood failed = false := by simp [contentsGood, hlock]
    rw [if_pos hlock, hbad, if_neg Bool.false_ne_true, lockContents, if_pos hlock]
  · have hgood : s.contentsGood failed = true ↔
        failed = false ∧ s.checkWord = some (Config.checkWord s.ret) := by
      simp [contentsGood, hlock]
    rw [if_neg hlock, lockContents, if_neg hlock, apply_ite (startFrom .start pins)]
    exact if_congr hgood rfl rfl

/-- A start-up closes every Run (R170). -/
theorem startFrom_runOf (s : State) (c : Cause) (pins : Pins) (p : Port) :
    (s.startFrom c pins).runOf p = none := by
  simp [startFrom, runOf, Retained.restarted, Vector.get_eq_getElem]

/-- A start-up returns the Reserved of every Run it closes (R83). -/
theorem startFrom_fundsOf (s : State) (c : Cause) (pins : Pins) (p : Port) :
    (s.startFrom c pins).fundsOf p = if s.runOf p = none then s.fundsOf p else (s.fundsOf p).released := by
  have hnone : ¬(s.ret.runs.get p).isSome = true ↔ s.runOf p = none := by
    rw [Bool.not_eq_true, Option.isSome_eq_false_iff, Option.isNone_iff_eq_none]
    rfl
  refine (restarted_funds s.ret p).trans ?_
  rw [← ite_not]
  exact if_congr hnone rfl rfl

/-- The Notices of the closures in Port order (R83, R84). -/
theorem restartNotices_eq (s : State) : restartNotices s.ret = allPorts.filterMap fun p =>
    match s.runOf p with
    | none => none
    | some r =>
      let printed := if r.state = .waiting then r.printed else r.granted
      some (.runend p r.id .restart r.pieces printed r.spoiled r.charge (r.granted * r.charge)) := by
  refine congrArg (List.filterMap · allPorts) (funext fun p => ?_)
  change (s.runOf p).map _ = _
  cases s.runOf p with
  | none => rfl
  | some r =>
    by_cases hw : r.state = .waiting
    · simp [runendNotice, Run.atRestart, Run.used, hw]
    · simp [runendNotice, Run.atRestart, Run.used, Run.allPrinted, hw]

end

/-- Settles O60: supply failing and reset, the start-up of a stopped part, the transmit pins, and what every
start-up leaves. -/
theorem stopAndStartUp : Obligations.StopAndStartUp := by
  refine ⟨?stop, ?start, fun _ h l => transmitPin_stopped h l, transmitPin_startFrom,
    fun _ _ h => transmitPin_detached h, ?left⟩
  case stop =>
    intro s hrun
    refine ⟨s.stopped true, s.stopped true, fun heldUp => ?_, ?_, rfl, rfl, rfl, rfl, rfl, rfl, rfl, rfl,
      fun p => perPort_get _ p⟩
    · change s.during (fun t => { t.stopped heldUp with pfail := true }) = _
      rw [during_running hrun]
      rfl
    · change s.during (fun t => { t.stopped true with resetIn := true }) = _
      rw [during_running hrun]
  case start =>
    intro s pins failed hstopped
    change Host.Outcome.next (if s.power = .stopped then s.powerUp pins failed else s) = _
    rw [if_pos hstopped, powerUp_eq, apply_ite Host.Outcome.next, apply_ite Host.Outcome.next]
  case left =>
    intro s c pins
    refine ⟨rfl, rfl, rfl, rfl, rfl, rfl, rfl, rfl, fun p => perPort_get _ p, fun p => perPort_get _ p,
      startFrom_runOf s c pins, rfl, startFrom_fundsOf s c pins, rfl, ?_, fun hlock => ?_, fun hlock => ?_⟩
    · change (startupNotices c s.lockMark s.ret).head? = _
      cases s.lockMark <;> rfl
    · change (startupNotices c s.lockMark s.ret).drop 1 = _
      rw [hlock]
      rfl
    · change (startupNotices c s.lockMark s.ret).drop 1 = _
      rw [hlock]
      exact restartNotices_eq s

end Sys2Proof.Machine

/-! SUPPORT. The transmitter of a meter line: the use of a slot that frees (R140, R141), and HOLD and GO
(R138, R139, R175). -/

namespace Sys2Proof.Machine

open State

section

variable {s : State} {p : Port}

/-! ### A record's block leaves the Meter Line Unit of its Port (R105) -/

theorem attach_mlu (s : State) (p : Port) (a : Announcement) : (s.attach p a).1.mlu p = s.mlu p := by
  have hstored : ∀ u : State, ({ u with ret := { u.ret with
      serials := u.ret.serials.set p (some a.serial) } } : State).mlu p = u.mlu p := fun _ => rfl
  have hserial : (s.recordSerial p a.serial).mlu p = s.mlu p := by
    unfold recordSerial
    rw [hstored]
    split_ifs <;> simp
  unfold attach
  dsimp only
  split_ifs <;> simp [hserial]

theorem takeAnnounce_mlu (s : State) (p : Port) (fs : List Text) :
    (takeAnnounce p fs s).1.mlu p = s.mlu p := by
  unfold takeAnnounce
  split
  · rfl
  · split_ifs
    · rfl
    · rfl
    · rfl
    · exact attach_mlu s p _

theorem giveBasic_mlu (s : State) (p : Port) : (s.giveBasic p).mlu p = s.mlu p := by
  unfold giveBasic
  split_ifs <;> rfl

theorem admitRun_mlu (s : State) (p : Port) (q : Profile) (c w : Nat) (fu : Text) (n : Nat) :
    (s.admitRun p q c w fu n).1.mlu p = s.mlu p := by
  unfold admitRun
  split
  · rfl
  · split
    · rfl
    · split_ifs
      · exact lowMarkCheck_mlu _ _ _
      · exact post_mlu _ _ _

theorem takeRun_mlu (s : State) (p : Port) (fs : List Text) : (takeRun p fs s).1.mlu p = s.mlu p := by
  unfold takeRun
  split
  · rfl
  · split_ifs
    · rfl
    · rfl
    · dsimp only
      split
      · exact giveBasic_mlu s p
      · exact (admitRun_mlu _ p _ _ _ _ _).trans (giveBasic_mlu s p)

theorem countReport_mlu (s : State) (p : Port) (r : Run) (a b : Nat) :
    (s.countReport p r a b).mlu p = s.mlu p := by
  simp [State.countReport]

theorem answerDone_mlu (s : State) (p : Port) (r : Run) : (s.answerDone p r).1.mlu p = s.mlu p := by
  unfold answerDone
  split_ifs <;> simp

theorem takeDone_mlu (s : State) (p : Port) (fs : List Text) : (takeDone p fs s).1.mlu p = s.mlu p := by
  unfold takeDone
  split
  · rfl
  · split
    · rfl
    · split_ifs
      · rfl
      · exact (answerDone_mlu _ p _).trans ((restartSilence_mlu _ p p).trans (countReport_mlu s p _ _ _))

theorem takeStop_mlu (s : State) (p : Port) (fs : List Text) : (takeStop p fs s).1.mlu p = s.mlu p := by
  unfold takeStop
  split
  · rfl
  · split
    · rfl
    · rename_i id a b _ _ r hr
      split
      · rfl
      · split
        · have hnone : ((s.latchIf (0 < a || 0 < b) p .countMismatch).closeSilently p r .stopped).runOf p =
              none := by
            simp
          refine (mlu_of_atPort (pass_atPort_of_none _ hnone)).trans ?_
          simp
        · exact (closeSilently_mlu _ p _ _ p).trans (countReport_mlu s p r a b)

/-- The block that a record goes to leaves the Meter Line Unit of its Port (R105). -/
theorem route_mlu (s : State) (p : Port) (f : Frame) : (route p f s).1.mlu p = s.mlu p := by
  unfold route
  split_ifs
  · exact takeAnnounce_mlu s p _
  · rfl
  · exact takeRun_mlu s p _
  · rfl
  · exact takeDone_mlu s p _
  · rfl
  · exact takeStop_mlu s p _
  · rfl

/-- The composition of a frame takes a slot of its Port's Meter Line Unit (R140). -/
theorem compose_mlu (s : State) (p : Port) (f : MeterFrame) :
    (s.compose p f).mlu p = (s.putFrame p f).mlu p := by
  unfold compose
  split
  · rw [restartSilence_mlu, debit_mlu]
  · rw [restartSilence_mlu, debit_mlu]
  · rw [restartSilence_mlu]
  · rfl

theorem compose_slots (s : State) (p : Port) (f : MeterFrame) :
    ((s.compose p f).mlu p).slots = (s.mlu p).slots.put f := by
  rw [compose_mlu, putFrame_eq, setMlu_mlu, if_pos rfl]

theorem compose_inputs (s : State) (p : Port) (f : MeterFrame) :
    ((s.compose p f).mlu p).inputs = (s.mlu p).inputs := by
  rw [compose_mlu, putFrame_eq, setMlu_mlu, if_pos rfl]

/-! ### The use of a free slot (R141) -/

theorem takeHead_of_full (h : (s.mlu p).slots.hasFree = false) : s.takeHead p = s := by
  unfold takeHead
  split
  · rw [h, Bool.and_false, Bool.false_and, if_neg Bool.false_ne_true]
  · rfl

theorem takeHead_of_empty (h : (s.mlu p).inputs = []) : s.takeHead p = s := by
  rw [takeHead, h]

/-- What stops the use of a slot after one frame composed: both slots are full, or no frame is queued. -/
def State.Spent (s : State) (p : Port) : Prop := (s.mlu p).slots.hasFree = false ∨ (s.mlu p).inputs = []

theorem takeHead_of_spent (h : s.Spent p) : s.takeHead p = s :=
  h.elim takeHead_of_full takeHead_of_empty

/-- With nothing owed and nothing queued a free slot stays free (R141). -/
theorem useSlot_idle (ho : (s.mlu p).owed = none) (hi : (s.mlu p).inputs = []) : s.useSlot p = s := by
  have howed : s.composeOwed p = s := by rw [composeOwed, ho]
  rw [useSlot, howed, takeHead_of_empty hi, takeHead_of_empty hi]

/-- The Owed Frame goes first (R141, step 1). -/
theorem useSlot_owed {f : MeterFrame} (ho : (s.mlu p).owed = some f) (hfree : (s.mlu p).slots.hasFree = true)
    (hend : ((s.mlu p).slots.put f).hasFree = false ∨ (s.mlu p).inputs = []) :
    s.useSlot p = (s.setMlu p { s.mlu p with owed := none }).compose p f := by
  have howed : s.composeOwed p = (s.setMlu p { s.mlu p with owed := none }).compose p f := by
    rw [composeOwed, ho]
    exact if_pos hfree
  have hspent : ((s.setMlu p { s.mlu p with owed := none }).compose p f).Spent p := by
    rw [Spent, compose_slots, compose_inputs, setMlu_mlu, if_pos rfl]
    exact hend
  rw [useSlot, howed, takeHead_of_spent hspent, takeHead_of_spent hspent]

/-- With nothing owed the head of the Input Queue is taken and answered (R141, step 2). -/
theorem useSlot_head {f : Frame} {rest : List Frame} (ho : (s.mlu p).owed = none)
    (hi : (s.mlu p).inputs = f :: rest) (hfree : (s.mlu p).slots.hasFree = true)
    (ha : (s.record p).state.attached = true)
    (hend : (∀ g : MeterFrame, ((s.mlu p).slots.put g).hasFree = false) ∨ rest = []) :
    let t := s.setMlu p (s.mlu p).takeOff
    s.useSlot p = (route p f t).1.compose p (route p f t).2 := by
  intro t
  have howed : s.composeOwed p = s := by rw [composeOwed, ho]
  have htaken : s.takeHead p = (route p f t).1.compose p (route p f t).2 := by
    rw [takeHead, hi]
    exact if_pos (by simp [ho, hfree, ha])
  have hoff : (s.mlu p).takeOff.slots = (s.mlu p).slots ∧ (s.mlu p).takeOff.inputs = rest := by
    unfold Mlu.takeOff Mlu.goDue
    split_ifs <;> simp [hi]
  have hspent : ((route p f t).1.compose p (route p f t).2).Spent p := by
    rw [Spent, compose_slots, compose_inputs, route_mlu, setMlu_mlu, if_pos rfl, hoff.1, hoff.2]
    exact hend.imp_left fun h => h _
  rw [useSlot, howed, htaken, takeHead_of_spent hspent]

/-! ### A slot that frees (R140) -/

/-- A Meter Line Unit when its frame has gone, the transmitter beginning the other slot's frame (R140). -/
def Mlu.freed (m : Mlu) : Mlu :=
  Mlu.beginNext { m with slots := m.slots.release, sending := false, flowWaiting := false }

/-- The last character of a frame goes on an attached Port's line (R140, R141). -/
theorem meterSlotFrees_attached (hsending : (s.mlu p).sending = true)
    (hfirst : (s.mlu p).slots.first.isSome = true) (ha : (s.record p).state.attached = true) :
    s.meterSlotFrees p = (s.setMlu p (s.mlu p).freed).useSlot p := by
  rw [meterSlotFrees, if_pos (by simp [hsending, hfirst]), if_pos ha]
  rfl

/-- With both slots held before, the other slot's frame begins (R140). -/
theorem freed_of_two {m : Mlu} (h : m.slots.hasFree = false) : m.freed = { m with
    slots := m.slots.release
    sending := !m.heldByMeter && !m.drivingBreak
    flowWaiting := false } := by
  obtain ⟨a, f, g, hslots⟩ : ∃ a f g, m.slots = .two a f g := by
    cases hslots : m.slots with
    | two a f g => exact ⟨a, f, g, rfl⟩
    | _ => rw [hslots] at h; cases h
  simp [Mlu.freed, Mlu.beginNext, hslots, Slots.release, Slots.first]

/-- With one slot held before, the transmitter stops (R140). -/
theorem freed_of_one {m : Mlu} {a : SlotName} {g : MeterFrame} (h : m.slots = .one a g) :
    m.freed = { m with slots := .empty a.other, sending := false, flowWaiting := false } := by
  simp [Mlu.freed, Mlu.beginNext, h, Slots.release, Slots.first]

/-- With both slots held before, one is free and one more frame fills them. -/
theorem release_of_two {φ : Type} {slots : Slots φ} (h : slots.hasFree = false) :
    slots.first.isSome = true ∧ slots.release.hasFree = true ∧
      ∀ g, (slots.release.put g).hasFree = false := by
  cases slots with
  | two a f g => exact ⟨rfl, rfl, fun _ => rfl⟩
  | _ => cases h

end

/-- Settles O57: a slot freed with both held before, and with one; HOLD and GO of the meter; and the flow
characters sent. -/
theorem meterTransmitter : Obligations.MeterTransmitter := by
  refine ⟨?two, ?one, ?hold, ?go, ?looped, ?sent⟩
  case two =>
    intro s p hrun ha hsending hfull freed
    obtain ⟨hfirst, hfree, hput⟩ := release_of_two hfull
    have hexec : exec (.meterSlotFree p) s = .next ((s.setMlu p freed).useSlot p) := by
      change s.during (meterSlotFrees p) = _
      rw [during_running hrun, meterSlotFrees_attached hsending hfirst ha, freed_of_two hfull]
    have hmlu : (s.setMlu p freed).mlu p = freed := by simp
    refine ⟨fun ho hi => ?_, fun f ho => ?_, fun f rest ho hi => ?_⟩
    · rw [hexec, useSlot_idle (by rw [hmlu]; exact ho) (by rw [hmlu]; exact hi)]
    · rw [hexec, useSlot_owed (f := f) (by rw [hmlu]; exact ho) (by rw [hmlu]; exact hfree)
        (.inl (by rw [hmlu]; exact hput f)), hmlu, setMlu_setMlu]
    · have huse := useSlot_head (s := s.setMlu p freed) (p := p) (f := f) (rest := rest)
        (by rw [hmlu]; exact ho) (by rw [hmlu]; exact hi) (by rw [hmlu]; exact hfree) ha (.inl (by rw [hmlu]; exact hput))
      rw [hmlu, setMlu_setMlu] at huse
      rw [hexec, huse]
  case one =>
    intro s p a g hrun ha hsending hone freed
    have hfirst : (s.mlu p).slots.first.isSome = true := by rw [hone]; rfl
    have hexec : exec (.meterSlotFree p) s = .next ((s.setMlu p freed).useSlot p) := by
      change s.during (meterSlotFrees p) = _
      rw [during_running hrun, meterSlotFrees_attached hsending hfirst ha, freed_of_one hone]
    have hmlu : (s.setMlu p freed).mlu p = freed := by simp
    refine ⟨fun ho hi => ?_, fun f ho hi => ?_, fun f ho hi => ?_⟩
    · rw [hexec, useSlot_idle (by rw [hmlu]; exact ho) (by rw [hmlu]; exact hi)]
    · rw [hexec, useSlot_owed (f := f) (by rw [hmlu]; exact ho) (by rw [hmlu]; rfl)
        (.inr (by rw [hmlu]; exact hi)), hmlu, setMlu_setMlu]
    · have huse := useSlot_head (s := s.setMlu p freed) (p := p) (f := f) (rest := [])
        (by rw [hmlu]; exact ho) (by rw [hmlu]; exact hi) (by rw [hmlu]; rfl) ha (.inr rfl)
      rw [hmlu, setMlu_setMlu] at huse
      rw [hexec, huse]
  case hold =>
    intro s p hrun hstate hrx
    change s.during (meterFlow p .hold) = _
    rw [during_running hrun, meterFlow_eq hstate hrx]
    rfl
  case go =>
    intro s p hrun hstate hrx
    change s.during (meterFlow p .go) = _
    rw [during_running hrun, meterFlow_eq hstate hrx]
    simp [Mlu.obeys, Mlu.beginNext, Mlu.charPassed]
  case looped =>
    intro s p hrun hstate
    constructor
    · change s.during (meterFlow p .hold) = _
      rw [during_running hrun, meterFlow_looped hstate]
    · change s.during (meterFlow p .go) = _
      rw [during_running hrun, meterFlow_looped hstate]
  case sent =>
    intro s p hgone
    refine ⟨fun h => ?_, fun h => ?_⟩
    · rw [flowSent, hgone, h, if_neg Bool.false_ne_true, Option.map_some, parityBit_hold]
      rfl
    · rw [flowSent, hgone, h, if_neg Bool.false_ne_true, Option.map_some, parityBit_go]
      rfl

end Sys2Proof.Machine

/-! SUPPORT. The line test of a Port in LOOPBACK (R142, R144, R146). -/

namespace Sys2Proof.Machine

open State

section

variable {s : State} {p : Port}

/-! ### The ends of a line test -/

/-- A line test in flight ends with its result (R146). -/
theorem endTest_of_flight (h : (s.mlu p).testInFlight = true) (result : LoopResult) :
    s.endTest p result = (s.setMlu p { s.mlu p with testInFlight := false }).setRecord p
      { s.record p with loopResult := some result } := if_pos h

section

variable (hloop : (s.record p).state = .loopback) {step : Receiver → Receiver × Option Termination}

include hloop

/-- A step of a looped receiver that ends no frame. -/
theorem meterReceives_looped_none {r : Receiver} (h : step (s.mlu p).rx = (r, none)) :
    s.meterReceives p step = s.setMlu p { s.mlu p with rx := r } := by
  unfold meterReceives
  rw [if_pos (by simp [hears, hloop]), h]

variable (htest : (s.mlu p).testInFlight = true)

include htest

/-- A frame that comes round COMPLETE ends the test with its text (R146). -/
theorem meterReceives_looped_complete {r : Receiver} {f : Frame}
    (h : step (s.mlu p).rx = (r, some (.complete f))) :
    s.meterReceives p step = (s.setMlu p { s.mlu p with rx := r, testInFlight := false }).setRecord p
      { s.record p with loopResult := some ⟨none, f.fields.headD []⟩ } := by
  unfold meterReceives
  rw [if_pos (by simp [hears, hloop]), h]
  dsimp only
  rw [frameEnds, if_pos (by exact hloop), endTest_of_flight (by simp [htest])]
  simp

/-- A frame that comes round faulty ends the test with the reason (R146). -/
theorem meterReceives_looped_fault {r : Receiver} {reason : FaultReason}
    (h : step (s.mlu p).rx = (r, some (.fault reason))) :
    s.meterReceives p step = (s.setMlu p { s.mlu p with rx := r, testInFlight := false }).setRecord p
      { s.record p with loopResult := some ⟨some reason, []⟩ } := by
  unfold meterReceives
  rw [if_pos (by simp [hears, hloop]), h]
  dsimp only
  rw [frameEnds, if_pos (by exact hloop), endTest_of_flight (by simp [htest])]
  simp

end

/-! ### What comes round the loop -/

/-- The frame in a slot is on the loop, and so is the one whose slot has freed (R142). -/
theorem onLoop_of_echo {m : Mlu} {f : MeterFrame}
    (h : (∃ a, m.slots = .one a f) ∨ (m.slots.first = none ∧ m.sentEcho = some f)) : m.onLoop = some f := by
  obtain ⟨a, hslots⟩ | ⟨hfirst, hecho⟩ := h
  · rw [Mlu.onLoop, hslots]
    rfl
  · have hempty : m.slots.frames = [] := by
      cases hslots : m.slots with
      | empty a => rfl
      | one a g => rw [hslots] at hfirst; cases hfirst
      | two a g g' => rw [hslots] at hfirst; cases hfirst
    rw [Mlu.onLoop, hempty, hecho]
    rfl

/-- A character that comes round the loop reaches the receiver (R144). -/
theorem exec_loopCharacter {c : Chr} {e : CharError} (hrun : s.power = .running)
    (hloop : (s.record p).state = .loopback) (hflow : e ≠ .clean ∨ flowOf c = none)
    (hround : (s.mlu p).comesRound c e = true) :
    exec (.characterReceived (.meter p) c e) s =
      .next (s.meterReceives p (Receiver.receive Config.meterLine.maxFrame c e)) := by
  rw [exec_meterCharacter hrun hflow, meterHears_looped hloop hround]

end

/-- Settles O55: the checks of LINETEST and the test started; the ECHO frame gone; its characters come round;
and the ends of the test. -/
theorem lineTestStartsAndEnds : Obligations.LineTestStartsAndEnds := by
  refine ⟨?request, ?gone, ?round, ?ends⟩
  case request =>
    intro s fp text port hs hp
    rw [exec_request_outcome (v := .linetest) rfl hs rfl, perform, linetestRequest, outcome_number s _ hp,
      outcome_refuseIf]
    refine if_congr Iff.rfl rfl ?_
    cases hport : portOf port with
    | none => rw [outcome_port_of_none s _ hport]
    | some p =>
      rw [outcome_port_of_some s _ hport, outcome_refuseIf, outcome_refuseIf, outcome_refuseIf, pure_eq_ok,
        outcome_ok]
      have hstart : s.startTest p text = (s.setRecord p { s.record p with loopResult := none }).setMlu p
          { s.mlu p with
            testInFlight := true
            slots := (s.mlu p).slots.put (.echo text)
            sending := (s.mlu p).sending || (!(s.mlu p).heldByMeter && !(s.mlu p).drivingBreak) } := by
        rw [startTest, putFrame_eq, setMlu_setMlu]
        simp
      refine if_congr Iff.rfl rfl (if_congr Iff.rfl rfl (if_congr Iff.rfl rfl ?_))
      exact congrArg (fun t => Host.Outcome.next (State.reply _ t)) hstart
  case gone =>
    intro s p a f hrun hloop hsending hslots
    change s.during (meterSlotFrees p) = _
    have hdetached : ¬(s.record p).state.attached = true := by simp [hloop, PortState.attached]
    rw [during_running hrun, meterSlotFrees, if_pos (by simp [hsending, hslots, Slots.first]),
      if_neg hdetached]
    simp [hslots, Mlu.beginNext, Slots.release, Slots.first]
  case round =>
    intro s p f body c hrun hloop hecho hrx hnext
    have honLoop := onLoop_of_echo hecho
    have hround := comesRound_next honLoop hrx hnext
    refine ⟨fun hc hlength => ?_, fun htest => ⟨fun hclose hawaits hagrees => ?_, ?_⟩⟩
    · obtain ⟨hne, hflow⟩ := continues_ne hc
      rw [exec_loopCharacter hrun hloop (.inr hflow) (hround .clean)]
      refine congrArg Host.Outcome.next (meterReceives_looped_none hloop ?_)
      rw [hrx]
      exact receive_continues hc hne hlength
    · subst hclose
      rw [exec_loopCharacter hrun hloop (.inr (by decide)) (hround .clean)]
      refine congrArg Host.Outcome.next (meterReceives_looped_complete hloop htest ?_)
      rw [hrx]
      refine (receive_close hawaits).trans ?_
      rw [closeFrame, if_pos hagrees]
      rfl
    · rw [exec_loopCharacter hrun hloop (.inl (by decide)) (hround .parity)]
      refine congrArg Host.Outcome.next (meterReceives_looped_fault hloop htest ?_)
      rw [hrx]
      rfl
  case ends =>
    intro s p hrun hloop htest
    refine ⟨fun body hrx hawaits hagrees => ?_, fun body atSpace reason hrx => ?_, fun hfirst => ?_⟩
    · change s.during (fun t =>
        if (t.record p).state = .loopback then t.meterReceives p Receiver.complete else t) = _
      rw [during_running hrun, if_pos hloop]
      refine congrArg Host.Outcome.next (meterReceives_looped_complete hloop htest ?_)
      rw [hrx, complete_collect hawaits hagrees]
    · change s.during (fun t =>
        if (t.record p).state = .loopback then t.meterReceives p (Receiver.fault reason) else t) = _
      rw [during_running hrun, if_pos hloop]
      refine congrArg Host.Outcome.next (meterReceives_looped_fault hloop htest ?_)
      rw [hrx]
      rfl
    · change s.during (testTimesOut p) = _
      rw [during_running hrun, testTimesOut, if_pos (by simp [hloop, hfirst]), endTest_of_flight htest]

end Sys2Proof.Machine
